-- ==== Sys2Proof/Word.lean ====
section
/-! DEFINITION. The words of the machine: 8-bit bytes and 16-bit slots (spec/00_scope.md rule R6, `SLOT_WIDTH`
and `ADDR_WIDTH`). The helpers that cut and join them stand in Machine/Bits.lean. -/

namespace Sys2Proof

/-- An 8-bit value: a byte register, a memory byte, an opcode byte (rule R7). -/
abbrev Byte := BitVec 8

/-- A 16-bit value: a register slot or a logical address (rule R6). -/
abbrev Word := BitVec 16

end Sys2Proof
end

