-- ==== Sys2Proof/Machine/Bits.lean ====
section
/-! DEFINITION. Cutting and joining words: the notation of spec/00_scope.md rule R7 and the two views of a slot of
spec/10_state.md rule R21. -/

namespace Sys2Proof.Machine

/-- Bits 15..8 of a slot (rule R21). -/
def hiByte (w : Word) : Byte := w.extractLsb' 8 8

/-- Bits 7..0 of a slot (rule R21). -/
def loByte (w : Word) : Byte := w.extractLsb' 0 8

/-- `hi : lo`, the concatenation with `hi` in the upper bits (rule R7). -/
def joinBytes (hi lo : Byte) : Word := hi ++ lo

/-- `sext_16` (rule R7). -/
def signExtendByte (b : Byte) : Word := b.signExtend 16

/-- `zext_16` (rule R7). -/
def zeroExtendByte (b : Byte) : Word := b.setWidth 16

end Sys2Proof.Machine
end

