-- ==== Sys2Proof/Config.lean ====
section
/-! DEFINITION. What a build of the block fixes: the parameters of spec/00_scope.md rule R6.
The fixed ones are constants here. The ones a host or a build may choose are the fields of `Params`,
which a machine carries from its construction on and no step changes. -/

namespace Sys2Proof

/-- `BOOT_IMAGE_SIZE`, 256 bytes exactly (rule R6). -/
def bootImageSize : Nat := 0x100

/-- `VRAM_SIZE`, 8 KiB (rule R6). -/
def vramSize : Nat := 0x2000

/-- `TICKS_PER_CYCLE`, base clock ticks in one machine cycle (rule R6). -/
def ticksPerCycle : Nat := 4

/-- The parameters of rule R6 that a build may choose.
`MAPPED_PRIMARY` and `MAPPED_CB` are given by what the build LEAVES OUT of their default values, because rule R92
lets a build pass smaller sets and never larger ones: with this shape a larger set cannot be written. -/
structure Params where
  /-- Primary opcode bytes left out of the default `MAPPED_PRIMARY` (rule R92). -/
  leftOutPrimary : List Byte
  /-- Extended opcode bytes left out of the default `MAPPED_CB` (rule R92). -/
  leftOutCB : List Byte
  /-- `BIT_WRITES_A` (rule R213, decision D9). -/
  bitWritesA : Bool
  /-- `BASE_CLOCK_HZ` (rule R287, decision D17); only the Timing Driver reads it. -/
  baseClockHz : Nat
deriving DecidableEq, Repr

/-- The defaults of rule R6: full tables, `BIT_WRITES_A = false`, `BASE_CLOCK_HZ = 4194304`. -/
def Params.default : Params where
  leftOutPrimary := []
  leftOutCB := []
  bitWritesA := false
  baseClockHz := 4194304

end Sys2Proof
end

