-- ==== Sys2Proof/Machine/State.lean ====
section
/-! DEFINITION. The state of the machine as plain data (spec/10_state.md), the fatal errors it records
(spec/60_exceptions.md rule R270 to rule R272), and the state after reset (rule R36). -/

namespace Sys2Proof.Machine

/-- The bytes of a backing store that differ from what an unlisted byte reads as, by rising offset: the boot image by its
offsets 0..0xFF, video memory by its offsets 0..0x1FFF (rule R35). -/
abbrev Memory := List Host.Cell

/-- The direction of a refused access (rule R272). -/
inductive AccessKind where
  | read
  | write
deriving DecidableEq, Repr

/-- The dispatch table a decode error names (rule R271). -/
inductive OpTable where
  | primary
  | extended
deriving DecidableEq, Repr

/-- The fatal errors of a run (rule R270). A raise records one in `State.fault` and the machine goes on to exist in that
faulted state, in which every tick does nothing (rule R273, rule R274): so a step never answers with the outcome
`fault`, and a state that records one is a next state. Safe: nothing is proved of a program that faults, and the recorded
value is the spec's own. -/
inductive Fault where
  /-- Raised by the engine's dispatch on an opcode its table does not map (rule R271); `pc` is the address of the
  instruction's first opcode byte. Safe: the spec's own error. -/
  | decodeError (table : OpTable) (opcode : Byte) (pc : Word)
  /-- Raised by the router on an access to an address no region claims, or a write to the boot region (rule R272).
  Safe: the spec's own error. -/
  | accessError (addr : Word) (kind : AccessKind)
deriving DecidableEq, Repr

/-- Why an instruction has no meaning. -/
inductive Refusal where
  /-- Raised by an arm of `exec` whose instruction has no meaning yet; no arm does. Safe: the machine stops. -/
  | notModelled (mnemonic : String)
deriving DecidableEq, Repr

/-- One write by the display collaborator through its own side of video memory (rule R289): an offset of the 8 KiB block
and the byte it stores there. -/
structure VramWrite where
  offset : BitVec 13
  value : Byte
deriving DecidableEq, Repr

structure State where
  /-- `AF`: `A` in bits 15..8, the flag byte `F` in bits 7..0 (rule R20, rule R21, rule R24). -/
  af : Word
  /-- `BC` (rule R20). -/
  bc : Word
  /-- `DE` (rule R20). -/
  de : Word
  /-- `HL` (rule R20). -/
  hl : Word
  /-- `SP` (rule R29). -/
  sp : Word
  /-- `PC` (rule R27). -/
  pc : Word
  /-- The remaining-cycle counter: idle at 0, executing above it (rule R31). -/
  counter : Nat
  /-- Set by HALT and STOP, cleared by nothing (rule R32). -/
  halted : Bool
  /-- The fatal error that stopped the machine, if one did (rule R33). -/
  fault : Option Fault
  /-- The boot image, by offset 0..0xFF (rule R35). -/
  boot : Memory
  /-- Video memory, by offset 0..0x1FFF (rule R35). -/
  vram : Memory
  /-- The parameters the machine was constructed with (rule R6). -/
  params : Params
  /-- The model's own field: what the display collaborator writes before each of the coming ticks, the next tick's writes
  first. It is the free input between two ticks of rule R289 and decision D24; when it is empty the collaborator writes
  no more (log entry 5). -/
  hostWrites : List (List VramWrite)
deriving DecidableEq, Repr

/-- The machine right after construction (rule R36, rule R300): every register 0, idle, neither halted nor faulted, the
default parameters. The two backing stores, whose contents the host chooses, list nothing (log entries 1 and 2), and
the collaborator has nothing to write (log entry 5). -/
def State.reset : State where
  af := 0
  bc := 0
  de := 0
  hl := 0
  sp := 0
  pc := 0
  counter := 0
  halted := false
  fault := none
  boot := []
  vram := []
  params := Params.default
  hostWrites := []

/-- What an instruction or a step answers. -/
abbrev Result := Host.Outcome State Fault Refusal

end Sys2Proof.Machine
end

