-- ==== Sys2Proof/Syntax.lean ====
section
/-! DEFINITION. The instruction set as syntax: the operand forms of spec/30_encoding.md rule R86 to rule R90, and `Instr`,
one constructor per row of spec/opcode_table.json, in the table's order but for the unmapped rows, which come last
(rule R93, rule R94). Immediates are operands of
their constructor: `n` is a `d8` or `a8` byte, `e` a signed `e8` byte, `w` a `d16` or `a16` word (rule R83), and `x` is
STOP's ignored second byte (rule R254). -/

namespace Sys2Proof

/-- The seven 8-bit registers an `r8` field can name (rule R86, without `(HL)`). -/
inductive Reg where
  | b | c | d | e | h | l | a
deriving DecidableEq, Repr

/-- The 8-bit operand field `r8` (rule R86): a register, or the byte at `HL`. -/
inductive R8 where
  | reg (r : Reg)
  | indHL
deriving DecidableEq, Repr

/-- The `rr` column of rule R87. -/
inductive Pair where
  | bc | de | hl | sp
deriving DecidableEq, Repr

/-- The `qq` column of rule R87. -/
inductive StackPair where
  | bc | de | hl | af
deriving DecidableEq, Repr

/-- The condition field `cc` (rule R88). -/
inductive Cond where
  | nz | z | nc | c
deriving DecidableEq, Repr

/-- The accumulator operations of quadrant 2 and of the `d8` column, in the order of their field (rule R93). -/
inductive AluOp where
  | add | adc | sub | sbc | and | xor | or | cp
deriving DecidableEq, Repr

/-- The rotate and shift operations of the extended table, in the order of their field (rule R90). -/
inductive RotOp where
  | rlc | rrc | rl | rr | sla | sra | swap | srl
deriving DecidableEq, Repr

/-- Every row of spec/opcode_table.json: 244 primary instructions, 256 extended ones, and the 11 unmapped primary
opcodes, whose decode result is "unmapped" (rule R91; spec/90_conflicts.md C12). -/
inductive Instr where
  /-- `00` NOP (R250). -/
  | nop
  /-- `01` LD BC,d16 (R141). -/
  | ldBCD16 (w : Word)
  /-- `02` LD (BC),A (R118). -/
  | ldIndBCA
  /-- `03` INC BC (R190). -/
  | incBC
  /-- `04` INC B (R169). -/
  | incB
  /-- `05` DEC B (R171). -/
  | decB
  /-- `06` LD B,d8 (R114). -/
  | ldBD8 (n : Byte)
  /-- `07` RLCA (R200). -/
  | rlca
  /-- `08` LD (a16),SP (R142). -/
  | ldIndA16SP (w : Word)
  /-- `09` ADD HL,BC (R192). -/
  | addHLBC
  /-- `0A` LD A,(BC) (R116). -/
  | ldAIndBC
  /-- `0B` DEC BC (R191). -/
  | decBC
  /-- `0C` INC C (R169). -/
  | incC
  /-- `0D` DEC C (R171). -/
  | decC
  /-- `0E` LD C,d8 (R114). -/
  | ldCD8 (n : Byte)
  /-- `0F` RRCA (R201). -/
  | rrca
  /-- `10` STOP (R254). -/
  | stop (x : Byte)
  /-- `11` LD DE,d16 (R141). -/
  | ldDED16 (w : Word)
  /-- `12` LD (DE),A (R119). -/
  | ldIndDEA
  /-- `13` INC DE (R190). -/
  | incDE
  /-- `14` INC D (R169). -/
  | incD
  /-- `15` DEC D (R171). -/
  | decD
  /-- `16` LD D,d8 (R114). -/
  | ldDD8 (n : Byte)
  /-- `17` RLA (R202). -/
  | rla
  /-- `18` JR e8 (R231). -/
  | jrE8 (e : Byte)
  /-- `19` ADD HL,DE (R192). -/
  | addHLDE
  /-- `1A` LD A,(DE) (R117). -/
  | ldAIndDE
  /-- `1B` DEC DE (R191). -/
  | decDE
  /-- `1C` INC E (R169). -/
  | incE
  /-- `1D` DEC E (R171). -/
  | decE
  /-- `1E` LD E,d8 (R114). -/
  | ldED8 (n : Byte)
  /-- `1F` RRA (R203). -/
  | rra
  /-- `20` JR NZ,e8 (R232). -/
  | jrNZE8 (e : Byte)
  /-- `21` LD HL,d16 (R141). -/
  | ldHLD16 (w : Word)
  /-- `22` LD (HL+),A (R120). -/
  | ldIndHLIncA
  /-- `23` INC HL (R190). -/
  | incHL
  /-- `24` INC H (R169). -/
  | incH
  /-- `25` DEC H (R171). -/
  | decH
  /-- `26` LD H,d8 (R114). -/
  | ldHD8 (n : Byte)
  /-- `27` DAA (R173). -/
  | daa
  /-- `28` JR Z,e8 (R232). -/
  | jrZE8 (e : Byte)
  /-- `29` ADD HL,HL (R192). -/
  | addHLHL
  /-- `2A` LD A,(HL+) (R122). -/
  | ldAIndHLInc
  /-- `2B` DEC HL (R191). -/
  | decHL
  /-- `2C` INC L (R169). -/
  | incL
  /-- `2D` DEC L (R171). -/
  | decL
  /-- `2E` LD L,d8 (R114). -/
  | ldLD8 (n : Byte)
  /-- `2F` CPL (R174). -/
  | cpl
  /-- `30` JR NC,e8 (R232). -/
  | jrNCE8 (e : Byte)
  /-- `31` LD SP,d16 (R141). -/
  | ldSPD16 (w : Word)
  /-- `32` LD (HL-),A (R121). -/
  | ldIndHLDecA
  /-- `33` INC SP (R190). -/
  | incSP
  /-- `34` INC (HL) (R170). -/
  | incIndHL
  /-- `35` DEC (HL) (R172). -/
  | decIndHL
  /-- `36` LD (HL),d8 (R115). -/
  | ldIndHLD8 (n : Byte)
  /-- `37` SCF (R175). -/
  | scf
  /-- `38` JR C,e8 (R232). -/
  | jrCE8 (e : Byte)
  /-- `39` ADD HL,SP (R192). -/
  | addHLSP
  /-- `3A` LD A,(HL-) (R123). -/
  | ldAIndHLDec
  /-- `3B` DEC SP (R191). -/
  | decSP
  /-- `3C` INC A (R169). -/
  | incA
  /-- `3D` DEC A (R171). -/
  | decA
  /-- `3E` LD A,d8 (R114). -/
  | ldAD8 (n : Byte)
  /-- `3F` CCF (R176). -/
  | ccf
  /-- `40` LD B,B (R111). -/
  | ldBB
  /-- `41` LD B,C (R111). -/
  | ldBC
  /-- `42` LD B,D (R111). -/
  | ldBD
  /-- `43` LD B,E (R111). -/
  | ldBE
  /-- `44` LD B,H (R111). -/
  | ldBH
  /-- `45` LD B,L (R111). -/
  | ldBL
  /-- `46` LD B,(HL) (R112). -/
  | ldBIndHL
  /-- `47` LD B,A (R111). -/
  | ldBA
  /-- `48` LD C,B (R111). -/
  | ldCB
  /-- `49` LD C,C (R111). -/
  | ldCC
  /-- `4A` LD C,D (R111). -/
  | ldCD
  /-- `4B` LD C,E (R111). -/
  | ldCE
  /-- `4C` LD C,H (R111). -/
  | ldCH
  /-- `4D` LD C,L (R111). -/
  | ldCL
  /-- `4E` LD C,(HL) (R112). -/
  | ldCIndHL
  /-- `4F` LD C,A (R111). -/
  | ldCA
  /-- `50` LD D,B (R111). -/
  | ldDB
  /-- `51` LD D,C (R111). -/
  | ldDC
  /-- `52` LD D,D (R111). -/
  | ldDD
  /-- `53` LD D,E (R111). -/
  | ldDE
  /-- `54` LD D,H (R111). -/
  | ldDH
  /-- `55` LD D,L (R111). -/
  | ldDL
  /-- `56` LD D,(HL) (R112). -/
  | ldDIndHL
  /-- `57` LD D,A (R111). -/
  | ldDA
  /-- `58` LD E,B (R111). -/
  | ldEB
  /-- `59` LD E,C (R111). -/
  | ldEC
  /-- `5A` LD E,D (R111). -/
  | ldED
  /-- `5B` LD E,E (R111). -/
  | ldEE
  /-- `5C` LD E,H (R111). -/
  | ldEH
  /-- `5D` LD E,L (R111). -/
  | ldEL
  /-- `5E` LD E,(HL) (R112). -/
  | ldEIndHL
  /-- `5F` LD E,A (R111). -/
  | ldEA
  /-- `60` LD H,B (R111). -/
  | ldHB
  /-- `61` LD H,C (R111). -/
  | ldHC
  /-- `62` LD H,D (R111). -/
  | ldHD
  /-- `63` LD H,E (R111). -/
  | ldHE
  /-- `64` LD H,H (R111). -/
  | ldHH
  /-- `65` LD H,L (R111). -/
  | ldHL
  /-- `66` LD H,(HL) (R112). -/
  | ldHIndHL
  /-- `67` LD H,A (R111). -/
  | ldHA
  /-- `68` LD L,B (R111). -/
  | ldLB
  /-- `69` LD L,C (R111). -/
  | ldLC
  /-- `6A` LD L,D (R111). -/
  | ldLD
  /-- `6B` LD L,E (R111). -/
  | ldLE
  /-- `6C` LD L,H (R111). -/
  | ldLH
  /-- `6D` LD L,L (R111). -/
  | ldLL
  /-- `6E` LD L,(HL) (R112). -/
  | ldLIndHL
  /-- `6F` LD L,A (R111). -/
  | ldLA
  /-- `70` LD (HL),B (R113). -/
  | ldIndHLB
  /-- `71` LD (HL),C (R113). -/
  | ldIndHLC
  /-- `72` LD (HL),D (R113). -/
  | ldIndHLD
  /-- `73` LD (HL),E (R113). -/
  | ldIndHLE
  /-- `74` LD (HL),H (R113). -/
  | ldIndHLH
  /-- `75` LD (HL),L (R113). -/
  | ldIndHLL
  /-- `76` HALT (R253). -/
  | halt
  /-- `77` LD (HL),A (R113). -/
  | ldIndHLA
  /-- `78` LD A,B (R111). -/
  | ldAB
  /-- `79` LD A,C (R111). -/
  | ldAC
  /-- `7A` LD A,D (R111). -/
  | ldAD
  /-- `7B` LD A,E (R111). -/
  | ldAE
  /-- `7C` LD A,H (R111). -/
  | ldAH
  /-- `7D` LD A,L (R111). -/
  | ldAL
  /-- `7E` LD A,(HL) (R112). -/
  | ldAIndHL
  /-- `7F` LD A,A (R111). -/
  | ldAA
  /-- `80` ADD A,B (R161). -/
  | addAB
  /-- `81` ADD A,C (R161). -/
  | addAC
  /-- `82` ADD A,D (R161). -/
  | addAD
  /-- `83` ADD A,E (R161). -/
  | addAE
  /-- `84` ADD A,H (R161). -/
  | addAH
  /-- `85` ADD A,L (R161). -/
  | addAL
  /-- `86` ADD A,(HL) (R161). -/
  | addAIndHL
  /-- `87` ADD A,A (R161). -/
  | addAA
  /-- `88` ADC A,B (R162). -/
  | adcAB
  /-- `89` ADC A,C (R162). -/
  | adcAC
  /-- `8A` ADC A,D (R162). -/
  | adcAD
  /-- `8B` ADC A,E (R162). -/
  | adcAE
  /-- `8C` ADC A,H (R162). -/
  | adcAH
  /-- `8D` ADC A,L (R162). -/
  | adcAL
  /-- `8E` ADC A,(HL) (R162). -/
  | adcAIndHL
  /-- `8F` ADC A,A (R162). -/
  | adcAA
  /-- `90` SUB A,B (R163). -/
  | subAB
  /-- `91` SUB A,C (R163). -/
  | subAC
  /-- `92` SUB A,D (R163). -/
  | subAD
  /-- `93` SUB A,E (R163). -/
  | subAE
  /-- `94` SUB A,H (R163). -/
  | subAH
  /-- `95` SUB A,L (R163). -/
  | subAL
  /-- `96` SUB A,(HL) (R163). -/
  | subAIndHL
  /-- `97` SUB A,A (R163). -/
  | subAA
  /-- `98` SBC A,B (R164). -/
  | sbcAB
  /-- `99` SBC A,C (R164). -/
  | sbcAC
  /-- `9A` SBC A,D (R164). -/
  | sbcAD
  /-- `9B` SBC A,E (R164). -/
  | sbcAE
  /-- `9C` SBC A,H (R164). -/
  | sbcAH
  /-- `9D` SBC A,L (R164). -/
  | sbcAL
  /-- `9E` SBC A,(HL) (R164). -/
  | sbcAIndHL
  /-- `9F` SBC A,A (R164). -/
  | sbcAA
  /-- `A0` AND A,B (R165). -/
  | andAB
  /-- `A1` AND A,C (R165). -/
  | andAC
  /-- `A2` AND A,D (R165). -/
  | andAD
  /-- `A3` AND A,E (R165). -/
  | andAE
  /-- `A4` AND A,H (R165). -/
  | andAH
  /-- `A5` AND A,L (R165). -/
  | andAL
  /-- `A6` AND A,(HL) (R165). -/
  | andAIndHL
  /-- `A7` AND A,A (R165). -/
  | andAA
  /-- `A8` XOR A,B (R166). -/
  | xorAB
  /-- `A9` XOR A,C (R166). -/
  | xorAC
  /-- `AA` XOR A,D (R166). -/
  | xorAD
  /-- `AB` XOR A,E (R166). -/
  | xorAE
  /-- `AC` XOR A,H (R166). -/
  | xorAH
  /-- `AD` XOR A,L (R166). -/
  | xorAL
  /-- `AE` XOR A,(HL) (R166). -/
  | xorAIndHL
  /-- `AF` XOR A,A (R166). -/
  | xorAA
  /-- `B0` OR A,B (R167). -/
  | orAB
  /-- `B1` OR A,C (R167). -/
  | orAC
  /-- `B2` OR A,D (R167). -/
  | orAD
  /-- `B3` OR A,E (R167). -/
  | orAE
  /-- `B4` OR A,H (R167). -/
  | orAH
  /-- `B5` OR A,L (R167). -/
  | orAL
  /-- `B6` OR A,(HL) (R167). -/
  | orAIndHL
  /-- `B7` OR A,A (R167). -/
  | orAA
  /-- `B8` CP A,B (R168). -/
  | cpAB
  /-- `B9` CP A,C (R168). -/
  | cpAC
  /-- `BA` CP A,D (R168). -/
  | cpAD
  /-- `BB` CP A,E (R168). -/
  | cpAE
  /-- `BC` CP A,H (R168). -/
  | cpAH
  /-- `BD` CP A,L (R168). -/
  | cpAL
  /-- `BE` CP A,(HL) (R168). -/
  | cpAIndHL
  /-- `BF` CP A,A (R168). -/
  | cpAA
  /-- `C0` RET NZ (R239). -/
  | retNZ
  /-- `C1` POP BC (R146). -/
  | popBC
  /-- `C2` JP NZ,a16 (R234). -/
  | jpNZA16 (w : Word)
  /-- `C3` JP a16 (R233). -/
  | jpA16 (w : Word)
  /-- `C4` CALL NZ,a16 (R237). -/
  | callNZA16 (w : Word)
  /-- `C5` PUSH BC (R145). -/
  | pushBC
  /-- `C6` ADD A,d8 (R161). -/
  | addAD8 (n : Byte)
  /-- `C7` RST 0x00 (R241). -/
  | rst00
  /-- `C8` RET Z (R239). -/
  | retZ
  /-- `C9` RET (R238). -/
  | ret
  /-- `CA` JP Z,a16 (R234). -/
  | jpZA16 (w : Word)
  /-- `CC` CALL Z,a16 (R237). -/
  | callZA16 (w : Word)
  /-- `CD` CALL a16 (R236). -/
  | callA16 (w : Word)
  /-- `CE` ADC A,d8 (R162). -/
  | adcAD8 (n : Byte)
  /-- `CF` RST 0x08 (R241). -/
  | rst08
  /-- `D0` RET NC (R239). -/
  | retNC
  /-- `D1` POP DE (R146). -/
  | popDE
  /-- `D2` JP NC,a16 (R234). -/
  | jpNCA16 (w : Word)
  /-- `D4` CALL NC,a16 (R237). -/
  | callNCA16 (w : Word)
  /-- `D5` PUSH DE (R145). -/
  | pushDE
  /-- `D6` SUB A,d8 (R163). -/
  | subAD8 (n : Byte)
  /-- `D7` RST 0x10 (R241). -/
  | rst10
  /-- `D8` RET C (R239). -/
  | retC
  /-- `D9` RETI (R240). -/
  | reti
  /-- `DA` JP C,a16 (R234). -/
  | jpCA16 (w : Word)
  /-- `DC` CALL C,a16 (R237). -/
  | callCA16 (w : Word)
  /-- `DE` SBC A,d8 (R164). -/
  | sbcAD8 (n : Byte)
  /-- `DF` RST 0x18 (R241). -/
  | rst18
  /-- `E0` LDH (a8),A (R127). -/
  | ldhIndA8A (n : Byte)
  /-- `E1` POP HL (R146). -/
  | popHL
  /-- `E2` LD (C),A (R129). -/
  | ldIndCA
  /-- `E5` PUSH HL (R145). -/
  | pushHL
  /-- `E6` AND A,d8 (R165). -/
  | andAD8 (n : Byte)
  /-- `E7` RST 0x20 (R241). -/
  | rst20
  /-- `E8` ADD SP,e8 (R193). -/
  | addSPE8 (e : Byte)
  /-- `E9` JP HL (R235). -/
  | jpHL
  /-- `EA` LD (a16),A (R125). -/
  | ldIndA16A (w : Word)
  /-- `EE` XOR A,d8 (R166). -/
  | xorAD8 (n : Byte)
  /-- `EF` RST 0x28 (R241). -/
  | rst28
  /-- `F0` LDH A,(a8) (R126). -/
  | ldhAIndA8 (n : Byte)
  /-- `F1` POP AF (R147). -/
  | popAF
  /-- `F2` LD A,(C) (R128). -/
  | ldAIndC
  /-- `F3` DI (R252). -/
  | di
  /-- `F5` PUSH AF (R145). -/
  | pushAF
  /-- `F6` OR A,d8 (R167). -/
  | orAD8 (n : Byte)
  /-- `F7` RST 0x30 (R241). -/
  | rst30
  /-- `F8` LD HL,SP+e8 (R144). -/
  | ldHLSPE8 (e : Byte)
  /-- `F9` LD SP,HL (R143). -/
  | ldSPHL
  /-- `FA` LD A,(a16) (R124). -/
  | ldAIndA16 (w : Word)
  /-- `FB` EI (R251). -/
  | ei
  /-- `FE` CP A,d8 (R168). -/
  | cpAD8 (n : Byte)
  /-- `FF` RST 0x38 (R241). -/
  | rst38
  /-- `CB 00` RLC B (R205). -/
  | rlcB
  /-- `CB 01` RLC C (R205). -/
  | rlcC
  /-- `CB 02` RLC D (R205). -/
  | rlcD
  /-- `CB 03` RLC E (R205). -/
  | rlcE
  /-- `CB 04` RLC H (R205). -/
  | rlcH
  /-- `CB 05` RLC L (R205). -/
  | rlcL
  /-- `CB 06` RLC (HL) (R205). -/
  | rlcIndHL
  /-- `CB 07` RLC A (R205). -/
  | rlcA
  /-- `CB 08` RRC B (R206). -/
  | rrcB
  /-- `CB 09` RRC C (R206). -/
  | rrcC
  /-- `CB 0A` RRC D (R206). -/
  | rrcD
  /-- `CB 0B` RRC E (R206). -/
  | rrcE
  /-- `CB 0C` RRC H (R206). -/
  | rrcH
  /-- `CB 0D` RRC L (R206). -/
  | rrcL
  /-- `CB 0E` RRC (HL) (R206). -/
  | rrcIndHL
  /-- `CB 0F` RRC A (R206). -/
  | rrcA
  /-- `CB 10` RL B (R207). -/
  | rlB
  /-- `CB 11` RL C (R207). -/
  | rlC
  /-- `CB 12` RL D (R207). -/
  | rlD
  /-- `CB 13` RL E (R207). -/
  | rlE
  /-- `CB 14` RL H (R207). -/
  | rlH
  /-- `CB 15` RL L (R207). -/
  | rlL
  /-- `CB 16` RL (HL) (R207). -/
  | rlIndHL
  /-- `CB 17` RL A (R207). -/
  | rlA
  /-- `CB 18` RR B (R208). -/
  | rrB
  /-- `CB 19` RR C (R208). -/
  | rrC
  /-- `CB 1A` RR D (R208). -/
  | rrD
  /-- `CB 1B` RR E (R208). -/
  | rrE
  /-- `CB 1C` RR H (R208). -/
  | rrH
  /-- `CB 1D` RR L (R208). -/
  | rrL
  /-- `CB 1E` RR (HL) (R208). -/
  | rrIndHL
  /-- `CB 1F` RR A (R208). -/
  | rrA
  /-- `CB 20` SLA B (R209). -/
  | slaB
  /-- `CB 21` SLA C (R209). -/
  | slaC
  /-- `CB 22` SLA D (R209). -/
  | slaD
  /-- `CB 23` SLA E (R209). -/
  | slaE
  /-- `CB 24` SLA H (R209). -/
  | slaH
  /-- `CB 25` SLA L (R209). -/
  | slaL
  /-- `CB 26` SLA (HL) (R209). -/
  | slaIndHL
  /-- `CB 27` SLA A (R209). -/
  | slaA
  /-- `CB 28` SRA B (R210). -/
  | sraB
  /-- `CB 29` SRA C (R210). -/
  | sraC
  /-- `CB 2A` SRA D (R210). -/
  | sraD
  /-- `CB 2B` SRA E (R210). -/
  | sraE
  /-- `CB 2C` SRA H (R210). -/
  | sraH
  /-- `CB 2D` SRA L (R210). -/
  | sraL
  /-- `CB 2E` SRA (HL) (R210). -/
  | sraIndHL
  /-- `CB 2F` SRA A (R210). -/
  | sraA
  /-- `CB 30` SWAP B (R211). -/
  | swapB
  /-- `CB 31` SWAP C (R211). -/
  | swapC
  /-- `CB 32` SWAP D (R211). -/
  | swapD
  /-- `CB 33` SWAP E (R211). -/
  | swapE
  /-- `CB 34` SWAP H (R211). -/
  | swapH
  /-- `CB 35` SWAP L (R211). -/
  | swapL
  /-- `CB 36` SWAP (HL) (R211). -/
  | swapIndHL
  /-- `CB 37` SWAP A (R211). -/
  | swapA
  /-- `CB 38` SRL B (R212). -/
  | srlB
  /-- `CB 39` SRL C (R212). -/
  | srlC
  /-- `CB 3A` SRL D (R212). -/
  | srlD
  /-- `CB 3B` SRL E (R212). -/
  | srlE
  /-- `CB 3C` SRL H (R212). -/
  | srlH
  /-- `CB 3D` SRL L (R212). -/
  | srlL
  /-- `CB 3E` SRL (HL) (R212). -/
  | srlIndHL
  /-- `CB 3F` SRL A (R212). -/
  | srlA
  /-- `CB 40` BIT 0,B (R213). -/
  | bit0B
  /-- `CB 41` BIT 0,C (R213). -/
  | bit0C
  /-- `CB 42` BIT 0,D (R213). -/
  | bit0D
  /-- `CB 43` BIT 0,E (R213). -/
  | bit0E
  /-- `CB 44` BIT 0,H (R213). -/
  | bit0H
  /-- `CB 45` BIT 0,L (R213). -/
  | bit0L
  /-- `CB 46` BIT 0,(HL) (R213). -/
  | bit0IndHL
  /-- `CB 47` BIT 0,A (R213). -/
  | bit0A
  /-- `CB 48` BIT 1,B (R213). -/
  | bit1B
  /-- `CB 49` BIT 1,C (R213). -/
  | bit1C
  /-- `CB 4A` BIT 1,D (R213). -/
  | bit1D
  /-- `CB 4B` BIT 1,E (R213). -/
  | bit1E
  /-- `CB 4C` BIT 1,H (R213). -/
  | bit1H
  /-- `CB 4D` BIT 1,L (R213). -/
  | bit1L
  /-- `CB 4E` BIT 1,(HL) (R213). -/
  | bit1IndHL
  /-- `CB 4F` BIT 1,A (R213). -/
  | bit1A
  /-- `CB 50` BIT 2,B (R213). -/
  | bit2B
  /-- `CB 51` BIT 2,C (R213). -/
  | bit2C
  /-- `CB 52` BIT 2,D (R213). -/
  | bit2D
  /-- `CB 53` BIT 2,E (R213). -/
  | bit2E
  /-- `CB 54` BIT 2,H (R213). -/
  | bit2H
  /-- `CB 55` BIT 2,L (R213). -/
  | bit2L
  /-- `CB 56` BIT 2,(HL) (R213). -/
  | bit2IndHL
  /-- `CB 57` BIT 2,A (R213). -/
  | bit2A
  /-- `CB 58` BIT 3,B (R213). -/
  | bit3B
  /-- `CB 59` BIT 3,C (R213). -/
  | bit3C
  /-- `CB 5A` BIT 3,D (R213). -/
  | bit3D
  /-- `CB 5B` BIT 3,E (R213). -/
  | bit3E
  /-- `CB 5C` BIT 3,H (R213). -/
  | bit3H
  /-- `CB 5D` BIT 3,L (R213). -/
  | bit3L
  /-- `CB 5E` BIT 3,(HL) (R213). -/
  | bit3IndHL
  /-- `CB 5F` BIT 3,A (R213). -/
  | bit3A
  /-- `CB 60` BIT 4,B (R213). -/
  | bit4B
  /-- `CB 61` BIT 4,C (R213). -/
  | bit4C
  /-- `CB 62` BIT 4,D (R213). -/
  | bit4D
  /-- `CB 63` BIT 4,E (R213). -/
  | bit4E
  /-- `CB 64` BIT 4,H (R213). -/
  | bit4H
  /-- `CB 65` BIT 4,L (R213). -/
  | bit4L
  /-- `CB 66` BIT 4,(HL) (R213). -/
  | bit4IndHL
  /-- `CB 67` BIT 4,A (R213). -/
  | bit4A
  /-- `CB 68` BIT 5,B (R213). -/
  | bit5B
  /-- `CB 69` BIT 5,C (R213). -/
  | bit5C
  /-- `CB 6A` BIT 5,D (R213). -/
  | bit5D
  /-- `CB 6B` BIT 5,E (R213). -/
  | bit5E
  /-- `CB 6C` BIT 5,H (R213). -/
  | bit5H
  /-- `CB 6D` BIT 5,L (R213). -/
  | bit5L
  /-- `CB 6E` BIT 5,(HL) (R213). -/
  | bit5IndHL
  /-- `CB 6F` BIT 5,A (R213). -/
  | bit5A
  /-- `CB 70` BIT 6,B (R213). -/
  | bit6B
  /-- `CB 71` BIT 6,C (R213). -/
  | bit6C
  /-- `CB 72` BIT 6,D (R213). -/
  | bit6D
  /-- `CB 73` BIT 6,E (R213). -/
  | bit6E
  /-- `CB 74` BIT 6,H (R213). -/
  | bit6H
  /-- `CB 75` BIT 6,L (R213). -/
  | bit6L
  /-- `CB 76` BIT 6,(HL) (R213). -/
  | bit6IndHL
  /-- `CB 77` BIT 6,A (R213). -/
  | bit6A
  /-- `CB 78` BIT 7,B (R213). -/
  | bit7B
  /-- `CB 79` BIT 7,C (R213). -/
  | bit7C
  /-- `CB 7A` BIT 7,D (R213). -/
  | bit7D
  /-- `CB 7B` BIT 7,E (R213). -/
  | bit7E
  /-- `CB 7C` BIT 7,H (R213). -/
  | bit7H
  /-- `CB 7D` BIT 7,L (R213). -/
  | bit7L
  /-- `CB 7E` BIT 7,(HL) (R213). -/
  | bit7IndHL
  /-- `CB 7F` BIT 7,A (R213). -/
  | bit7A
  /-- `CB 80` RES 0,B (R214). -/
  | res0B
  /-- `CB 81` RES 0,C (R214). -/
  | res0C
  /-- `CB 82` RES 0,D (R214). -/
  | res0D
  /-- `CB 83` RES 0,E (R214). -/
  | res0E
  /-- `CB 84` RES 0,H (R214). -/
  | res0H
  /-- `CB 85` RES 0,L (R214). -/
  | res0L
  /-- `CB 86` RES 0,(HL) (R214). -/
  | res0IndHL
  /-- `CB 87` RES 0,A (R214). -/
  | res0A
  /-- `CB 88` RES 1,B (R214). -/
  | res1B
  /-- `CB 89` RES 1,C (R214). -/
  | res1C
  /-- `CB 8A` RES 1,D (R214). -/
  | res1D
  /-- `CB 8B` RES 1,E (R214). -/
  | res1E
  /-- `CB 8C` RES 1,H (R214). -/
  | res1H
  /-- `CB 8D` RES 1,L (R214). -/
  | res1L
  /-- `CB 8E` RES 1,(HL) (R214). -/
  | res1IndHL
  /-- `CB 8F` RES 1,A (R214). -/
  | res1A
  /-- `CB 90` RES 2,B (R214). -/
  | res2B
  /-- `CB 91` RES 2,C (R214). -/
  | res2C
  /-- `CB 92` RES 2,D (R214). -/
  | res2D
  /-- `CB 93` RES 2,E (R214). -/
  | res2E
  /-- `CB 94` RES 2,H (R214). -/
  | res2H
  /-- `CB 95` RES 2,L (R214). -/
  | res2L
  /-- `CB 96` RES 2,(HL) (R214). -/
  | res2IndHL
  /-- `CB 97` RES 2,A (R214). -/
  | res2A
  /-- `CB 98` RES 3,B (R214). -/
  | res3B
  /-- `CB 99` RES 3,C (R214). -/
  | res3C
  /-- `CB 9A` RES 3,D (R214). -/
  | res3D
  /-- `CB 9B` RES 3,E (R214). -/
  | res3E
  /-- `CB 9C` RES 3,H (R214). -/
  | res3H
  /-- `CB 9D` RES 3,L (R214). -/
  | res3L
  /-- `CB 9E` RES 3,(HL) (R214). -/
  | res3IndHL
  /-- `CB 9F` RES 3,A (R214). -/
  | res3A
  /-- `CB A0` RES 4,B (R214). -/
  | res4B
  /-- `CB A1` RES 4,C (R214). -/
  | res4C
  /-- `CB A2` RES 4,D (R214). -/
  | res4D
  /-- `CB A3` RES 4,E (R214). -/
  | res4E
  /-- `CB A4` RES 4,H (R214). -/
  | res4H
  /-- `CB A5` RES 4,L (R214). -/
  | res4L
  /-- `CB A6` RES 4,(HL) (R214). -/
  | res4IndHL
  /-- `CB A7` RES 4,A (R214). -/
  | res4A
  /-- `CB A8` RES 5,B (R214). -/
  | res5B
  /-- `CB A9` RES 5,C (R214). -/
  | res5C
  /-- `CB AA` RES 5,D (R214). -/
  | res5D
  /-- `CB AB` RES 5,E (R214). -/
  | res5E
  /-- `CB AC` RES 5,H (R214). -/
  | res5H
  /-- `CB AD` RES 5,L (R214). -/
  | res5L
  /-- `CB AE` RES 5,(HL) (R214). -/
  | res5IndHL
  /-- `CB AF` RES 5,A (R214). -/
  | res5A
  /-- `CB B0` RES 6,B (R214). -/
  | res6B
  /-- `CB B1` RES 6,C (R214). -/
  | res6C
  /-- `CB B2` RES 6,D (R214). -/
  | res6D
  /-- `CB B3` RES 6,E (R214). -/
  | res6E
  /-- `CB B4` RES 6,H (R214). -/
  | res6H
  /-- `CB B5` RES 6,L (R214). -/
  | res6L
  /-- `CB B6` RES 6,(HL) (R214). -/
  | res6IndHL
  /-- `CB B7` RES 6,A (R214). -/
  | res6A
  /-- `CB B8` RES 7,B (R214). -/
  | res7B
  /-- `CB B9` RES 7,C (R214). -/
  | res7C
  /-- `CB BA` RES 7,D (R214). -/
  | res7D
  /-- `CB BB` RES 7,E (R214). -/
  | res7E
  /-- `CB BC` RES 7,H (R214). -/
  | res7H
  /-- `CB BD` RES 7,L (R214). -/
  | res7L
  /-- `CB BE` RES 7,(HL) (R214). -/
  | res7IndHL
  /-- `CB BF` RES 7,A (R214). -/
  | res7A
  /-- `CB C0` SET 0,B (R215). -/
  | set0B
  /-- `CB C1` SET 0,C (R215). -/
  | set0C
  /-- `CB C2` SET 0,D (R215). -/
  | set0D
  /-- `CB C3` SET 0,E (R215). -/
  | set0E
  /-- `CB C4` SET 0,H (R215). -/
  | set0H
  /-- `CB C5` SET 0,L (R215). -/
  | set0L
  /-- `CB C6` SET 0,(HL) (R215). -/
  | set0IndHL
  /-- `CB C7` SET 0,A (R215). -/
  | set0A
  /-- `CB C8` SET 1,B (R215). -/
  | set1B
  /-- `CB C9` SET 1,C (R215). -/
  | set1C
  /-- `CB CA` SET 1,D (R215). -/
  | set1D
  /-- `CB CB` SET 1,E (R215). -/
  | set1E
  /-- `CB CC` SET 1,H (R215). -/
  | set1H
  /-- `CB CD` SET 1,L (R215). -/
  | set1L
  /-- `CB CE` SET 1,(HL) (R215). -/
  | set1IndHL
  /-- `CB CF` SET 1,A (R215). -/
  | set1A
  /-- `CB D0` SET 2,B (R215). -/
  | set2B
  /-- `CB D1` SET 2,C (R215). -/
  | set2C
  /-- `CB D2` SET 2,D (R215). -/
  | set2D
  /-- `CB D3` SET 2,E (R215). -/
  | set2E
  /-- `CB D4` SET 2,H (R215). -/
  | set2H
  /-- `CB D5` SET 2,L (R215). -/
  | set2L
  /-- `CB D6` SET 2,(HL) (R215). -/
  | set2IndHL
  /-- `CB D7` SET 2,A (R215). -/
  | set2A
  /-- `CB D8` SET 3,B (R215). -/
  | set3B
  /-- `CB D9` SET 3,C (R215). -/
  | set3C
  /-- `CB DA` SET 3,D (R215). -/
  | set3D
  /-- `CB DB` SET 3,E (R215). -/
  | set3E
  /-- `CB DC` SET 3,H (R215). -/
  | set3H
  /-- `CB DD` SET 3,L (R215). -/
  | set3L
  /-- `CB DE` SET 3,(HL) (R215). -/
  | set3IndHL
  /-- `CB DF` SET 3,A (R215). -/
  | set3A
  /-- `CB E0` SET 4,B (R215). -/
  | set4B
  /-- `CB E1` SET 4,C (R215). -/
  | set4C
  /-- `CB E2` SET 4,D (R215). -/
  | set4D
  /-- `CB E3` SET 4,E (R215). -/
  | set4E
  /-- `CB E4` SET 4,H (R215). -/
  | set4H
  /-- `CB E5` SET 4,L (R215). -/
  | set4L
  /-- `CB E6` SET 4,(HL) (R215). -/
  | set4IndHL
  /-- `CB E7` SET 4,A (R215). -/
  | set4A
  /-- `CB E8` SET 5,B (R215). -/
  | set5B
  /-- `CB E9` SET 5,C (R215). -/
  | set5C
  /-- `CB EA` SET 5,D (R215). -/
  | set5D
  /-- `CB EB` SET 5,E (R215). -/
  | set5E
  /-- `CB EC` SET 5,H (R215). -/
  | set5H
  /-- `CB ED` SET 5,L (R215). -/
  | set5L
  /-- `CB EE` SET 5,(HL) (R215). -/
  | set5IndHL
  /-- `CB EF` SET 5,A (R215). -/
  | set5A
  /-- `CB F0` SET 6,B (R215). -/
  | set6B
  /-- `CB F1` SET 6,C (R215). -/
  | set6C
  /-- `CB F2` SET 6,D (R215). -/
  | set6D
  /-- `CB F3` SET 6,E (R215). -/
  | set6E
  /-- `CB F4` SET 6,H (R215). -/
  | set6H
  /-- `CB F5` SET 6,L (R215). -/
  | set6L
  /-- `CB F6` SET 6,(HL) (R215). -/
  | set6IndHL
  /-- `CB F7` SET 6,A (R215). -/
  | set6A
  /-- `CB F8` SET 7,B (R215). -/
  | set7B
  /-- `CB F9` SET 7,C (R215). -/
  | set7C
  /-- `CB FA` SET 7,D (R215). -/
  | set7D
  /-- `CB FB` SET 7,E (R215). -/
  | set7E
  /-- `CB FC` SET 7,H (R215). -/
  | set7H
  /-- `CB FD` SET 7,L (R215). -/
  | set7L
  /-- `CB FE` SET 7,(HL) (R215). -/
  | set7IndHL
  /-- `CB FF` SET 7,A (R215). -/
  | set7A
  /-- `D3` unmapped (R91). -/
  | unmappedD3
  /-- `DB` unmapped (R91). -/
  | unmappedDB
  /-- `DD` unmapped (R91). -/
  | unmappedDD
  /-- `E3` unmapped (R91). -/
  | unmappedE3
  /-- `E4` unmapped (R91). -/
  | unmappedE4
  /-- `EB` unmapped (R91). -/
  | unmappedEB
  /-- `EC` unmapped (R91). -/
  | unmappedEC
  /-- `ED` unmapped (R91). -/
  | unmappedED
  /-- `F4` unmapped (R91). -/
  | unmappedF4
  /-- `FC` unmapped (R91). -/
  | unmappedFC
  /-- `FD` unmapped (R91). -/
  | unmappedFD
deriving DecidableEq, Repr

end Sys2Proof
end

