-- ==== Sys2Proof/Machine/Ops.lean ====
section
/-! DEFINITION. The named operations over memory, registers, the router, the stack and the fatal-error mechanism
(spec/10_state.md, spec/20_memory.md, spec/60_exceptions.md section 1). -/

namespace Sys2Proof.Machine

/-! ### Backing stores -/

/-- What a byte that a backing store does not list reads as. The spec leaves the contents of both stores to the host
(rule R36, decision D8): 0x00 is the model's choice for a store nothing was loaded into (log entries 1 and 2). -/
def Memory.unlisted : Byte := 0x00

/-- The byte at an offset of a backing store. -/
def Memory.readCell (m : Memory) (k : Nat) : Byte :=
  match m with
  | [] => Memory.unlisted
  | (j, v) :: rest => if j = k then v else Memory.readCell rest k

/-- The backing store with one byte replaced. The canonical form is kept: the offsets rise, and a byte equal to what an
unlisted one reads as is not listed. -/
def Memory.writeCell (m : Memory) (k : Nat) (v : Byte) : Memory :=
  match m with
  | [] => if v = Memory.unlisted then [] else [(k, v)]
  | (j, u) :: rest =>
    if k < j then
      if v = Memory.unlisted then (j, u) :: rest else (k, v) :: (j, u) :: rest
    else if k = j then
      if v = Memory.unlisted then rest else (k, v) :: rest
    else (j, u) :: Memory.writeCell rest k v

/-- The offsets of a backing store rise strictly from `lo` on and stay below `size`, and no listed byte is the one an
unlisted offset reads as. -/
def Memory.wfFrom (size lo : Nat) (m : Memory) : Bool :=
  match m with
  | [] => true
  | (j, v) :: rest => decide (lo ≤ j) && decide (j < size) && decide (v ≠ Memory.unlisted) && Memory.wfFrom size (j + 1) rest

/-- The canonical form of a backing store of `size` bytes. -/
def Memory.wf (size : Nat) (m : Memory) : Bool := Memory.wfFrom size 0 m

/-- The backing store that holds the given bytes from offset `k` on. -/
def Memory.ofBytesFrom (k : Nat) (bytes : List Byte) : Memory :=
  match bytes with
  | [] => []
  | v :: rest => if v = Memory.unlisted then Memory.ofBytesFrom (k + 1) rest else (k, v) :: Memory.ofBytesFrom (k + 1) rest

/-- The backing store that holds the given bytes from offset 0 on. -/
def Memory.ofBytes (bytes : List Byte) : Memory := Memory.ofBytesFrom 0 bytes

/-! ### Registers: one 16-bit cell per slot, and the byte views of it (rule R21, rule R22) -/

/-- `A`, the high byte of `AF`. -/
def State.a (s : State) : Byte := hiByte s.af
/-- `F`, the low byte of `AF`. -/
def State.f (s : State) : Byte := loByte s.af
/-- `B`, the high byte of `BC`. -/
def State.b (s : State) : Byte := hiByte s.bc
/-- `C`, the low byte of `BC`. -/
def State.c (s : State) : Byte := loByte s.bc
/-- `D`, the high byte of `DE`. -/
def State.d (s : State) : Byte := hiByte s.de
/-- `E`, the low byte of `DE`. -/
def State.e (s : State) : Byte := loByte s.de
/-- `H`, the high byte of `HL`. -/
def State.h (s : State) : Byte := hiByte s.hl
/-- `L`, the low byte of `HL`. -/
def State.l (s : State) : Byte := loByte s.hl

/-- `A <- v` (rule R22). -/
def State.setA (s : State) (v : Byte) : State := { s with af := joinBytes v (loByte s.af) }
/-- `F <- v`, which stores `v & 0xF0` (rule R25). -/
def State.setF (s : State) (v : Byte) : State := { s with af := joinBytes (hiByte s.af) (v &&& 0xF0) }
/-- `AF <- v` through the word view, whose low byte is a write of `F` (rule R22, rule R25). -/
def State.setAF (s : State) (v : Word) : State := { s with af := v &&& 0xFFF0 }
/-- `B <- v` (rule R22). -/
def State.setB (s : State) (v : Byte) : State := { s with bc := joinBytes v (loByte s.bc) }
/-- `C <- v` (rule R22). -/
def State.setC (s : State) (v : Byte) : State := { s with bc := joinBytes (hiByte s.bc) v }
/-- `D <- v` (rule R22). -/
def State.setD (s : State) (v : Byte) : State := { s with de := joinBytes v (loByte s.de) }
/-- `E <- v` (rule R22). -/
def State.setE (s : State) (v : Byte) : State := { s with de := joinBytes (hiByte s.de) v }
/-- `H <- v` (rule R22). -/
def State.setH (s : State) (v : Byte) : State := { s with hl := joinBytes v (loByte s.hl) }
/-- `L <- v` (rule R22). -/
def State.setL (s : State) (v : Byte) : State := { s with hl := joinBytes (hiByte s.hl) v }
/-- `BC <- v` through the word view. -/
def State.setBC (s : State) (v : Word) : State := { s with bc := v }
/-- `DE <- v` through the word view. -/
def State.setDE (s : State) (v : Word) : State := { s with de := v }
/-- `HL <- v` through the word view. -/
def State.setHL (s : State) (v : Word) : State := { s with hl := v }
/-- `SP <- v` (rule R29). -/
def State.setSP (s : State) (v : Word) : State := { s with sp := v }
/-- `PC <- v` (rule R8). -/
def State.setPC (s : State) (v : Word) : State := { s with pc := v }

/-! ### The router (rule R51 to rule R60) -/

/-- A region of the partition table (rule R53), with the offset in its backing store where it has one. -/
inductive Region where
  /-- 0x0000-0x00FF: the boot image (rule R55). -/
  | bootImage (offset : Nat)
  /-- 0x0100-0x0FFF: the boot region beyond the image (rule R56). -/
  | bootBeyond
  /-- 0x8000-0x9FFF and its echo 0xE000-0xFDFF: video memory (rule R58). -/
  | videoMemory (offset : Nat)
  /-- 0xFF26: the placeholder control register (rule R59). -/
  | controlRegister
  /-- Every other address (rule R60). -/
  | unclaimed
deriving DecidableEq, Repr

/-- The router's decode, in the priority order of rule R51: a function of the address alone (rule R54). -/
def route (addr : Word) : Region :=
  let n := addr.toNat
  if 0xFE00 ≤ n then
    if n = 0xFF26 then .controlRegister else .unclaimed
  else if 0xE000 ≤ n then .videoMemory (n - 0xE000)
  else if 0x8000 ≤ n ∧ n ≤ 0x9FFF then .videoMemory (n - 0x8000)
  else if n ≤ 0x00FF then .bootImage n
  else if n ≤ 0x0FFF then .bootBeyond
  else .unclaimed

/-- `Read8(addr)` (rule R51). -/
def State.read8 (s : State) (addr : Word) : Except Fault Byte :=
  match route addr with
  | .bootImage k => .ok (Memory.readCell s.boot k)
  | .videoMemory k => .ok (Memory.readCell s.vram k)
  | .controlRegister => .ok 0x00
  | .bootBeyond => .error (.accessError addr .read)
  | .unclaimed => .error (.accessError addr .read)

/-- `Write8(addr, v)` (rule R52): the state after the store, or the error. -/
def State.write8 (s : State) (addr : Word) (v : Byte) : Except Fault State :=
  match route addr with
  | .videoMemory k => .ok { s with vram := Memory.writeCell s.vram k v }
  | .controlRegister => .ok s
  | .bootImage _ => .error (.accessError addr .write)
  | .bootBeyond => .error (.accessError addr .write)
  | .unclaimed => .error (.accessError addr .write)

/-- `MemRead(addr, 2)` (rule R61): two 8-bit reads, the low byte first. -/
def State.read16 (s : State) (addr : Word) : Except Fault Word :=
  match s.read8 addr with
  | .error e => .error e
  | .ok lo =>
    match s.read8 (addr + 1) with
    | .error e => .error e
    | .ok hi => .ok (joinBytes hi lo)

/-- `MemWrite(addr, 2, v)` (rule R62): two 8-bit writes, the low byte first. An error comes with the state it leaves: a
first byte that was written stays. -/
def State.write16 (s : State) (addr : Word) (v : Word) : Except (Fault × State) State :=
  match s.write8 addr (loByte v) with
  | .error e => .error (e, s)
  | .ok s₁ =>
    match s₁.write8 (addr + 1) (hiByte v) with
    | .error e => .error (e, s₁)
    | .ok s₂ => .ok s₂

/-! ### The end of an instruction -/

/-- `raise e` at a state whose earlier writes all stay (rule R10, rule R273): the error is recorded, no cost is returned,
the counter keeps its value. This is all there is to taking an exception on this hardware: nothing is saved, no mode
changes, no vector is entered (rule R277), and no instruction returns from one (rule R278). -/
def raise (e : Fault) (s : State) : Result := .next { s with fault := some e }

/-- The instruction has run and returns its cost, from which the counter is set (rule R303, `counter <- cost - 1`). -/
def complete (cost : Nat) (s : State) : Result := .next { s with counter := cost - 1 }

/-! ### The stack (rule R29, rule R63) -/

/-- `SP <- SP - 2; MemWrite(SP, 2, v)` (rule R145, decision D18). On an error `SP` stays decremented. -/
def State.push (s : State) (v : Word) : Except (Fault × State) State :=
  (s.setSP (s.sp - 2)).write16 (s.sp - 2) v

/-- `v <- MemRead(SP, 2); SP <- SP + 2` (rule R146): the word and the state after it. -/
def State.pop (s : State) : Except Fault (Word × State) :=
  match s.read16 s.sp with
  | .error e => .error e
  | .ok v => .ok (v, s.setSP (s.sp + 2))

end Sys2Proof.Machine
end

