-- ==== Sys2Proof/Machine/Flags.lean ====
section
/-! DEFINITION. The flag byte (spec/10_state.md rule R24) and every result and flag computation of the instruction rules:
spec/42_alu8.md, spec/43_alu16.md, spec/41_load16.md rule R144 and spec/44_rotate_shift_bit.md. Operands are taken as
unbounded integers, the flags are read off the exact result, and the result is narrowed last (rule R7). -/

namespace Sys2Proof.Machine

/-- The four flags (rule R24). -/
structure Flags where
  z : Bool
  n : Bool
  h : Bool
  c : Bool
deriving DecidableEq, Repr

/-- The flag byte: Z in bit 7, N in bit 6, Hf in bit 5, Cf in bit 4, zeros below (rule R24). -/
def Flags.toByte (fl : Flags) : Byte :=
  (if fl.z then 0x80 else 0) ||| (if fl.n then 0x40 else 0) ||| (if fl.h then 0x20 else 0) ||| (if fl.c then 0x10 else 0)

/-- `Z` (rule R24). -/
def State.flagZ (s : State) : Bool := s.f.getLsbD 7
/-- `N` (rule R24). -/
def State.flagN (s : State) : Bool := s.f.getLsbD 6
/-- `Hf` (rule R24). -/
def State.flagH (s : State) : Bool := s.f.getLsbD 5
/-- `Cf` (rule R24). -/
def State.flagC (s : State) : Bool := s.f.getLsbD 4

/-- The four flags as they stand. -/
def State.flags (s : State) : Flags := ⟨s.flagZ, s.flagN, s.flagH, s.flagC⟩

/-- Writes all four flags, a write of `F` (rule R25). -/
def State.setFlags (s : State) (fl : Flags) : State := s.setF fl.toByte

/-- A Boolean as a bit of an integer (rule R7). -/
def bitNat (b : Bool) : Nat := if b then 1 else 0

/-! ### Accumulator operations (rule R161 to rule R168): the result and the flags, from `A`, the operand and `Cf` -/

/-- `A + s + c` (rule R161 with `c = 0`, rule R162). -/
def addBytes (a v : Byte) (c : Bool) : Byte × Flags :=
  let r := a.toNat + v.toNat + bitNat c
  let result := BitVec.ofNat 8 r
  (result,
    { z := result == 0
      n := false
      h := decide (a.toNat % 16 + v.toNat % 16 + bitNat c > 0x0F)
      c := decide (r > 0xFF) })

/-- `A - s - c` (rule R163 with `c = 0`, rule R164). -/
def subBytes (a v : Byte) (c : Bool) : Byte × Flags :=
  let r : Int := (a.toNat : Int) - (v.toNat : Int) - (bitNat c : Int)
  let result := BitVec.ofInt 8 r
  (result,
    { z := result == 0
      n := true
      h := decide (a.toNat % 16 < v.toNat % 16 + bitNat c)
      c := decide (a.toNat < v.toNat + bitNat c) })

/-- `A & s` (rule R165). -/
def andBytes (a v : Byte) : Byte × Flags :=
  (a &&& v, { z := (a &&& v) == 0, n := false, h := true, c := false })

/-- `A ^ s` (rule R166). -/
def xorBytes (a v : Byte) : Byte × Flags :=
  (a ^^^ v, { z := (a ^^^ v) == 0, n := false, h := false, c := false })

/-- `A | s` (rule R167). -/
def orBytes (a v : Byte) : Byte × Flags :=
  (a ||| v, { z := (a ||| v) == 0, n := false, h := false, c := false })

/-- The result and the flags of an accumulator operation (rule R161 to rule R168). CP's result is SUB's, of which only the
flags are written (rule R168). -/
def aluResult (op : AluOp) (a v : Byte) (c : Bool) : Byte × Flags :=
  match op with
  | .add => addBytes a v false
  | .adc => addBytes a v c
  | .sub => subBytes a v false
  | .sbc => subBytes a v c
  | .and => andBytes a v
  | .xor => xorBytes a v
  | .or => orBytes a v
  | .cp => subBytes a v false

/-! ### Increment and decrement (rule R169 to rule R172) -/

/-- `v + 1`; the carry flag is passed through (rule R169). -/
def incByte (v : Byte) (c : Bool) : Byte × Flags :=
  let result := BitVec.ofNat 8 (v.toNat + 1)
  (result, { z := result == 0, n := false, h := decide (v.toNat % 16 = 0x0F), c := c })

/-- `v - 1`; the carry flag is passed through (rule R171). -/
def decByte (v : Byte) (c : Bool) : Byte × Flags :=
  let result := BitVec.ofInt 8 ((v.toNat : Int) - 1)
  (result, { z := result == 0, n := true, h := decide (v.toNat % 16 = 0), c := c })

/-! ### Accumulator adjust and flag operations (rule R173 to rule R176) -/

/-- `DAA` (rule R173): the adjusted accumulator and the flags, from `A` and the flags. -/
def daaResult (a : Byte) (fl : Flags) : Byte × Flags :=
  let n := a.toNat
  let up := fl.c || decide (n > 0x99)
  let adjusted : Int :=
    if fl.n then
      (n : Int) - (if fl.c then 0x60 else 0) - (if fl.h then 0x06 else 0)
    else
      (n : Int) + (if up then 0x60 else 0) + (if fl.h || decide (n % 16 > 0x09) then 0x06 else 0)
  let result := BitVec.ofInt 8 adjusted
  (result, { z := result == 0, n := fl.n, h := false, c := if fl.n then fl.c else up })

/-- The flags after `CPL` (rule R174). -/
def cplFlags (fl : Flags) : Flags := { fl with n := true, h := true }

/-- The flags after `SCF` (rule R175). -/
def scfFlags (fl : Flags) : Flags := { fl with n := false, h := false, c := true }

/-- The flags after `CCF` (rule R176). -/
def ccfFlags (fl : Flags) : Flags := { fl with n := false, h := false, c := !fl.c }

/-! ### 16-bit arithmetic (rule R144, rule R192, rule R193) -/

/-- `ADD HL,rr` (rule R192): the carries are out of bit 11 and bit 15, Z is passed through. -/
def addWords (hl v : Word) (z : Bool) : Word × Flags :=
  let r := hl.toNat + v.toNat
  (BitVec.ofNat 16 r,
    { z := z
      n := false
      h := decide (hl.toNat % 0x1000 + v.toNat % 0x1000 > 0x0FFF)
      c := decide (r > 0xFFFF) })

/-- `SP + e8` (rule R144, rule R193): the word, with Z and N cleared and the carries of the unsigned addition of `SP`'s
low byte and `e8`. -/
def addSPSigned (sp : Word) (e : Byte) : Word × Flags :=
  (sp + signExtendByte e,
    { z := false
      n := false
      h := decide (sp.toNat % 16 + e.toNat % 16 > 0x0F)
      c := decide (sp.toNat % 256 + e.toNat > 0xFF) })

/-! ### Rotates, shifts and bit operations (rule R200 to rule R215) -/

/-- The result and the carry out of a rotate or shift, from the operand and `Cf` (rule R205 to rule R212). -/
def rotValue (op : RotOp) (v : Byte) (c : Bool) : Byte × Bool :=
  let n := v.toNat
  let top := v.getLsbD 7
  let low := v.getLsbD 0
  match op with
  | .rlc => (BitVec.ofNat 8 (n * 2 + bitNat top), top)
  | .rrc => (BitVec.ofNat 8 (n / 2 + bitNat low * 0x80), low)
  | .rl => (BitVec.ofNat 8 (n * 2 + bitNat c), top)
  | .rr => (BitVec.ofNat 8 (n / 2 + bitNat c * 0x80), low)
  | .sla => (BitVec.ofNat 8 (n * 2), top)
  | .sra => (BitVec.ofNat 8 (n / 2 + bitNat top * 0x80), low)
  | .swap => (BitVec.ofNat 8 (n % 16 * 16 + n / 16), false)
  | .srl => (BitVec.ofNat 8 (n / 2), low)

/-- The result and the flags of an extended rotate or shift: Z from the result, N and Hf cleared (rule R205 to
rule R212). -/
def rotResult (op : RotOp) (v : Byte) (c : Bool) : Byte × Flags :=
  let r := rotValue op v c
  (r.1, { z := r.1 == 0, n := false, h := false, c := r.2 })

/-- The result and the flags of an accumulator rotate: as the extended one, but Z is cleared (rule R200 to rule R203). -/
def rotAResult (op : RotOp) (v : Byte) (c : Bool) : Byte × Flags :=
  let r := rotValue op v c
  (r.1, { z := false, n := false, h := false, c := r.2 })

/-- `1 << b` as a byte (rule R213). -/
def bitMask (b : Fin 8) : Byte := BitVec.ofNat 8 (2 ^ b.val)

/-- The flags after `BIT b` of a byte; the carry flag is passed through (rule R213). -/
def bitFlags (b : Fin 8) (v : Byte) (c : Bool) : Flags :=
  { z := !v.getLsbD b.val, n := false, h := true, c := c }

/-- `v & ~(1 << b)` (rule R214). -/
def resBit (b : Fin 8) (v : Byte) : Byte := v &&& ~~~ (bitMask b)

/-- `v | (1 << b)` (rule R215). -/
def setBit (b : Fin 8) (v : Byte) : Byte := v ||| bitMask b

end Sys2Proof.Machine
end

