-- ==== Sys2Proof/Machine/Operands.lean ====
section
/-! DEFINITION. The operand forms (spec/30_encoding.md rule R83 and rule R86 to rule R89): registers by their field, the
byte at an address, slots, conditions, the top page; and the shapes in which an instruction uses an operand in memory. -/

namespace Sys2Proof.Machine

/-- `R8[k]` for a register (rule R86). -/
def State.reg (s : State) (r : Reg) : Byte :=
  match r with
  | .b => s.b
  | .c => s.c
  | .d => s.d
  | .e => s.e
  | .h => s.h
  | .l => s.l
  | .a => s.a

/-- `R8[k] <- v` for a register (rule R86). -/
def State.setReg (s : State) (r : Reg) (v : Byte) : State :=
  match r with
  | .b => s.setB v
  | .c => s.setC v
  | .d => s.setD v
  | .e => s.setE v
  | .h => s.setH v
  | .l => s.setL v
  | .a => s.setA v

/-- The slot of the `rr` column (rule R87). -/
def State.pair (s : State) (p : Pair) : Word :=
  match p with
  | .bc => s.bc
  | .de => s.de
  | .hl => s.hl
  | .sp => s.sp

/-- A write of the slot of the `rr` column (rule R87). -/
def State.setPair (s : State) (p : Pair) (v : Word) : State :=
  match p with
  | .bc => s.setBC v
  | .de => s.setDE v
  | .hl => s.setHL v
  | .sp => s.setSP v

/-- The slot of the `qq` column (rule R87). -/
def State.stackPair (s : State) (q : StackPair) : Word :=
  match q with
  | .bc => s.bc
  | .de => s.de
  | .hl => s.hl
  | .af => s.af

/-- A write of the slot of the `qq` column (rule R87); a write of `AF` is subject to rule R25. -/
def State.setStackPair (s : State) (q : StackPair) (v : Word) : State :=
  match q with
  | .bc => s.setBC v
  | .de => s.setDE v
  | .hl => s.setHL v
  | .af => s.setAF v

/-- `cond(cc)` (rule R230). -/
def State.cond (s : State) (cc : Cond) : Bool :=
  match cc with
  | .nz => !s.flagZ
  | .z => s.flagZ
  | .nc => !s.flagC
  | .c => s.flagC

/-- The top-page address `0xFF00 + n` (rule R83). -/
def topPage (n : Byte) : Word := 0xFF00 + zeroExtendByte n

/-- The target of `RST t`: `t = 8 * k` for the field `k = op[5:3]` (rule R89). -/
def rstVector (k : Fin 8) : Word := BitVec.ofNat 16 (8 * k.val)

/-- Reads the byte at `addr` and goes on with it; an access error ends the instruction here (rule R10). -/
def withByte (addr : Word) (k : Byte → State → Result) (s : State) : Result :=
  match s.read8 addr with
  | .ok v => k v s
  | .error e => raise e s

/-- Stores a byte at `addr` and goes on; an access error ends the instruction here (rule R10). -/
def storeByte (addr : Word) (v : Byte) (k : State → Result) (s : State) : Result :=
  match s.write8 addr v with
  | .ok s' => k s'
  | .error e => raise e s

/-- The read-modify-write of the byte at `HL` (rule R204): read, then store the result, always, then what comes after the
store, which is given the byte that was read. -/
def modifyAtHL (f : Byte → Byte) (after : Byte → State → State) (cost : Nat) (s : State) : Result :=
  withByte s.hl (fun v s₁ => storeByte s₁.hl (f v) (fun s₂ => complete cost (after v s₂)) s₁) s

end Sys2Proof.Machine
end

