-- ==== Sys2Proof/Machine/Alu16.lean ====
section
/-! DEFINITION. The 16-bit arithmetic (spec/43_alu16.md rule R190 to rule R193). -/

namespace Sys2Proof.Machine

/-! ### The shared operations -/

/-- `INC rr`: no flags (rule R190). -/
def incPairOp (rr : Pair) (cost : Nat) (s : State) : Result :=
  complete cost (s.setPair rr (s.pair rr + 1))

/-- `DEC rr`: no flags (rule R191). -/
def decPairOp (rr : Pair) (cost : Nat) (s : State) : Result :=
  complete cost (s.setPair rr (s.pair rr - 1))

/-- `ADD HL,rr` (rule R192). -/
def addHLOp (rr : Pair) (cost : Nat) (s : State) : Result :=
  let r := addWords s.hl (s.pair rr) s.flagZ
  complete cost ((s.setFlags r.2).setHL r.1)

/-- `ADD SP,e8` (rule R193). -/
def addSPOp (e : Byte) (cost : Nat) (s : State) : Result :=
  let r := addSPSigned s.sp e
  complete cost ((s.setFlags r.2).setSP r.1)

/-! ### One meaning per instruction -/

/-- INC BC (R190). -/
def execIncBC (s : State) : Result := incPairOp .bc 2 s
/-- ADD HL,BC (R192). -/
def execAddHLBC (s : State) : Result := addHLOp .bc 2 s
/-- DEC BC (R191). -/
def execDecBC (s : State) : Result := decPairOp .bc 2 s
/-- INC DE (R190). -/
def execIncDE (s : State) : Result := incPairOp .de 2 s
/-- ADD HL,DE (R192). -/
def execAddHLDE (s : State) : Result := addHLOp .de 2 s
/-- DEC DE (R191). -/
def execDecDE (s : State) : Result := decPairOp .de 2 s
/-- INC HL (R190). -/
def execIncHL (s : State) : Result := incPairOp .hl 2 s
/-- ADD HL,HL (R192). -/
def execAddHLHL (s : State) : Result := addHLOp .hl 2 s
/-- DEC HL (R191). -/
def execDecHL (s : State) : Result := decPairOp .hl 2 s
/-- INC SP (R190). -/
def execIncSP (s : State) : Result := incPairOp .sp 2 s
/-- ADD HL,SP (R192). -/
def execAddHLSP (s : State) : Result := addHLOp .sp 2 s
/-- DEC SP (R191). -/
def execDecSP (s : State) : Result := decPairOp .sp 2 s
/-- ADD SP,e8 (R193). -/
def execAddSPE8 (e : Byte) (s : State) : Result := addSPOp e 4 s

end Sys2Proof.Machine
end

