-- ==== Sys2Proof/Machine/Alu8.lean ====
section
/-! DEFINITION. The 8-bit arithmetic and logic (spec/42_alu8.md rule R160 to rule R176). -/

namespace Sys2Proof.Machine

/-! ### The shared operations -/

/-- The effect of an accumulator operation on `A` and `F`; CP leaves `A` as it is (rule R160, rule R168). -/
def applyAlu (op : AluOp) (v : Byte) (s : State) : State :=
  let r := aluResult op s.a v s.flagC
  match op with
  | .cp => s.setFlags r.2
  | _ => (s.setA r.1).setFlags r.2

/-- An accumulator operation on a register's value or an immediate (rule R160). -/
def aluOp (op : AluOp) (v : Byte) (cost : Nat) (s : State) : Result :=
  complete cost (applyAlu op v s)

/-- An accumulator operation on the byte at `HL` (rule R160). -/
def aluIndOp (op : AluOp) (cost : Nat) (s : State) : Result :=
  withByte s.hl (fun v s₁ => complete cost (applyAlu op v s₁)) s

/-- `INC r` (rule R169). -/
def incRegOp (dst : Reg) (cost : Nat) (s : State) : Result :=
  let r := incByte (s.reg dst) s.flagC
  complete cost ((s.setReg dst r.1).setFlags r.2)

/-- `DEC r` (rule R171). -/
def decRegOp (dst : Reg) (cost : Nat) (s : State) : Result :=
  let r := decByte (s.reg dst) s.flagC
  complete cost ((s.setReg dst r.1).setFlags r.2)

/-- `INC (HL)` (rule R170): the flags are written after the store. -/
def incIndOp (cost : Nat) (s : State) : Result :=
  modifyAtHL (fun v => (incByte v s.flagC).1) (fun v s₁ => s₁.setFlags (incByte v s₁.flagC).2) cost s

/-- `DEC (HL)` (rule R172): the flags are written after the store. -/
def decIndOp (cost : Nat) (s : State) : Result :=
  modifyAtHL (fun v => (decByte v s.flagC).1) (fun v s₁ => s₁.setFlags (decByte v s₁.flagC).2) cost s

/-- `DAA` (rule R173). -/
def daaOp (cost : Nat) (s : State) : Result :=
  let r := daaResult s.a s.flags
  complete cost ((s.setA r.1).setFlags r.2)

/-- `CPL` (rule R174). -/
def cplOp (cost : Nat) (s : State) : Result :=
  complete cost ((s.setA (~~~ s.a)).setFlags (cplFlags s.flags))

/-- `SCF` (rule R175). -/
def scfOp (cost : Nat) (s : State) : Result :=
  complete cost (s.setFlags (scfFlags s.flags))

/-- `CCF` (rule R176). -/
def ccfOp (cost : Nat) (s : State) : Result :=
  complete cost (s.setFlags (ccfFlags s.flags))

/-! ### One meaning per instruction -/

/-- INC B (R169). -/
def execIncB (s : State) : Result := incRegOp .b 1 s
/-- DEC B (R171). -/
def execDecB (s : State) : Result := decRegOp .b 1 s
/-- INC C (R169). -/
def execIncC (s : State) : Result := incRegOp .c 1 s
/-- DEC C (R171). -/
def execDecC (s : State) : Result := decRegOp .c 1 s
/-- INC D (R169). -/
def execIncD (s : State) : Result := incRegOp .d 1 s
/-- DEC D (R171). -/
def execDecD (s : State) : Result := decRegOp .d 1 s
/-- INC E (R169). -/
def execIncE (s : State) : Result := incRegOp .e 1 s
/-- DEC E (R171). -/
def execDecE (s : State) : Result := decRegOp .e 1 s
/-- INC H (R169). -/
def execIncH (s : State) : Result := incRegOp .h 1 s
/-- DEC H (R171). -/
def execDecH (s : State) : Result := decRegOp .h 1 s
/-- DAA (R173). -/
def execDaa (s : State) : Result := daaOp 1 s
/-- INC L (R169). -/
def execIncL (s : State) : Result := incRegOp .l 1 s
/-- DEC L (R171). -/
def execDecL (s : State) : Result := decRegOp .l 1 s
/-- CPL (R174). -/
def execCpl (s : State) : Result := cplOp 1 s
/-- INC (HL) (R170). -/
def execIncIndHL (s : State) : Result := incIndOp 3 s
/-- DEC (HL) (R172). -/
def execDecIndHL (s : State) : Result := decIndOp 3 s
/-- SCF (R175). -/
def execScf (s : State) : Result := scfOp 1 s
/-- INC A (R169). -/
def execIncA (s : State) : Result := incRegOp .a 1 s
/-- DEC A (R171). -/
def execDecA (s : State) : Result := decRegOp .a 1 s
/-- CCF (R176). -/
def execCcf (s : State) : Result := ccfOp 1 s
/-- ADD A,B (R161). -/
def execAddAB (s : State) : Result := aluOp .add (s.reg .b) 1 s
/-- ADD A,C (R161). -/
def execAddAC (s : State) : Result := aluOp .add (s.reg .c) 1 s
/-- ADD A,D (R161). -/
def execAddAD (s : State) : Result := aluOp .add (s.reg .d) 1 s
/-- ADD A,E (R161). -/
def execAddAE (s : State) : Result := aluOp .add (s.reg .e) 1 s
/-- ADD A,H (R161). -/
def execAddAH (s : State) : Result := aluOp .add (s.reg .h) 1 s
/-- ADD A,L (R161). -/
def execAddAL (s : State) : Result := aluOp .add (s.reg .l) 1 s
/-- ADD A,(HL) (R161). -/
def execAddAIndHL (s : State) : Result := aluIndOp .add 2 s
/-- ADD A,A (R161). -/
def execAddAA (s : State) : Result := aluOp .add (s.reg .a) 1 s
/-- ADC A,B (R162). -/
def execAdcAB (s : State) : Result := aluOp .adc (s.reg .b) 1 s
/-- ADC A,C (R162). -/
def execAdcAC (s : State) : Result := aluOp .adc (s.reg .c) 1 s
/-- ADC A,D (R162). -/
def execAdcAD (s : State) : Result := aluOp .adc (s.reg .d) 1 s
/-- ADC A,E (R162). -/
def execAdcAE (s : State) : Result := aluOp .adc (s.reg .e) 1 s
/-- ADC A,H (R162). -/
def execAdcAH (s : State) : Result := aluOp .adc (s.reg .h) 1 s
/-- ADC A,L (R162). -/
def execAdcAL (s : State) : Result := aluOp .adc (s.reg .l) 1 s
/-- ADC A,(HL) (R162). -/
def execAdcAIndHL (s : State) : Result := aluIndOp .adc 2 s
/-- ADC A,A (R162). -/
def execAdcAA (s : State) : Result := aluOp .adc (s.reg .a) 1 s
/-- SUB A,B (R163). -/
def execSubAB (s : State) : Result := aluOp .sub (s.reg .b) 1 s
/-- SUB A,C (R163). -/
def execSubAC (s : State) : Result := aluOp .sub (s.reg .c) 1 s
/-- SUB A,D (R163). -/
def execSubAD (s : State) : Result := aluOp .sub (s.reg .d) 1 s
/-- SUB A,E (R163). -/
def execSubAE (s : State) : Result := aluOp .sub (s.reg .e) 1 s
/-- SUB A,H (R163). -/
def execSubAH (s : State) : Result := aluOp .sub (s.reg .h) 1 s
/-- SUB A,L (R163). -/
def execSubAL (s : State) : Result := aluOp .sub (s.reg .l) 1 s
/-- SUB A,(HL) (R163). -/
def execSubAIndHL (s : State) : Result := aluIndOp .sub 2 s
/-- SUB A,A (R163). -/
def execSubAA (s : State) : Result := aluOp .sub (s.reg .a) 1 s
/-- SBC A,B (R164). -/
def execSbcAB (s : State) : Result := aluOp .sbc (s.reg .b) 1 s
/-- SBC A,C (R164). -/
def execSbcAC (s : State) : Result := aluOp .sbc (s.reg .c) 1 s
/-- SBC A,D (R164). -/
def execSbcAD (s : State) : Result := aluOp .sbc (s.reg .d) 1 s
/-- SBC A,E (R164). -/
def execSbcAE (s : State) : Result := aluOp .sbc (s.reg .e) 1 s
/-- SBC A,H (R164). -/
def execSbcAH (s : State) : Result := aluOp .sbc (s.reg .h) 1 s
/-- SBC A,L (R164). -/
def execSbcAL (s : State) : Result := aluOp .sbc (s.reg .l) 1 s
/-- SBC A,(HL) (R164). -/
def execSbcAIndHL (s : State) : Result := aluIndOp .sbc 2 s
/-- SBC A,A (R164). -/
def execSbcAA (s : State) : Result := aluOp .sbc (s.reg .a) 1 s
/-- AND A,B (R165). -/
def execAndAB (s : State) : Result := aluOp .and (s.reg .b) 1 s
/-- AND A,C (R165). -/
def execAndAC (s : State) : Result := aluOp .and (s.reg .c) 1 s
/-- AND A,D (R165). -/
def execAndAD (s : State) : Result := aluOp .and (s.reg .d) 1 s
/-- AND A,E (R165). -/
def execAndAE (s : State) : Result := aluOp .and (s.reg .e) 1 s
/-- AND A,H (R165). -/
def execAndAH (s : State) : Result := aluOp .and (s.reg .h) 1 s
/-- AND A,L (R165). -/
def execAndAL (s : State) : Result := aluOp .and (s.reg .l) 1 s
/-- AND A,(HL) (R165). -/
def execAndAIndHL (s : State) : Result := aluIndOp .and 2 s
/-- AND A,A (R165). -/
def execAndAA (s : State) : Result := aluOp .and (s.reg .a) 1 s
/-- XOR A,B (R166). -/
def execXorAB (s : State) : Result := aluOp .xor (s.reg .b) 1 s
/-- XOR A,C (R166). -/
def execXorAC (s : State) : Result := aluOp .xor (s.reg .c) 1 s
/-- XOR A,D (R166). -/
def execXorAD (s : State) : Result := aluOp .xor (s.reg .d) 1 s
/-- XOR A,E (R166). -/
def execXorAE (s : State) : Result := aluOp .xor (s.reg .e) 1 s
/-- XOR A,H (R166). -/
def execXorAH (s : State) : Result := aluOp .xor (s.reg .h) 1 s
/-- XOR A,L (R166). -/
def execXorAL (s : State) : Result := aluOp .xor (s.reg .l) 1 s
/-- XOR A,(HL) (R166). -/
def execXorAIndHL (s : State) : Result := aluIndOp .xor 2 s
/-- XOR A,A (R166). -/
def execXorAA (s : State) : Result := aluOp .xor (s.reg .a) 1 s
/-- OR A,B (R167). -/
def execOrAB (s : State) : Result := aluOp .or (s.reg .b) 1 s
/-- OR A,C (R167). -/
def execOrAC (s : State) : Result := aluOp .or (s.reg .c) 1 s
/-- OR A,D (R167). -/
def execOrAD (s : State) : Result := aluOp .or (s.reg .d) 1 s
/-- OR A,E (R167). -/
def execOrAE (s : State) : Result := aluOp .or (s.reg .e) 1 s
/-- OR A,H (R167). -/
def execOrAH (s : State) : Result := aluOp .or (s.reg .h) 1 s
/-- OR A,L (R167). -/
def execOrAL (s : State) : Result := aluOp .or (s.reg .l) 1 s
/-- OR A,(HL) (R167). -/
def execOrAIndHL (s : State) : Result := aluIndOp .or 2 s
/-- OR A,A (R167). -/
def execOrAA (s : State) : Result := aluOp .or (s.reg .a) 1 s
/-- CP A,B (R168). -/
def execCpAB (s : State) : Result := aluOp .cp (s.reg .b) 1 s
/-- CP A,C (R168). -/
def execCpAC (s : State) : Result := aluOp .cp (s.reg .c) 1 s
/-- CP A,D (R168). -/
def execCpAD (s : State) : Result := aluOp .cp (s.reg .d) 1 s
/-- CP A,E (R168). -/
def execCpAE (s : State) : Result := aluOp .cp (s.reg .e) 1 s
/-- CP A,H (R168). -/
def execCpAH (s : State) : Result := aluOp .cp (s.reg .h) 1 s
/-- CP A,L (R168). -/
def execCpAL (s : State) : Result := aluOp .cp (s.reg .l) 1 s
/-- CP A,(HL) (R168). -/
def execCpAIndHL (s : State) : Result := aluIndOp .cp 2 s
/-- CP A,A (R168). -/
def execCpAA (s : State) : Result := aluOp .cp (s.reg .a) 1 s
/-- ADD A,d8 (R161). -/
def execAddAD8 (n : Byte) (s : State) : Result := aluOp .add n 2 s
/-- ADC A,d8 (R162). -/
def execAdcAD8 (n : Byte) (s : State) : Result := aluOp .adc n 2 s
/-- SUB A,d8 (R163). -/
def execSubAD8 (n : Byte) (s : State) : Result := aluOp .sub n 2 s
/-- SBC A,d8 (R164). -/
def execSbcAD8 (n : Byte) (s : State) : Result := aluOp .sbc n 2 s
/-- AND A,d8 (R165). -/
def execAndAD8 (n : Byte) (s : State) : Result := aluOp .and n 2 s
/-- XOR A,d8 (R166). -/
def execXorAD8 (n : Byte) (s : State) : Result := aluOp .xor n 2 s
/-- OR A,d8 (R167). -/
def execOrAD8 (n : Byte) (s : State) : Result := aluOp .or n 2 s
/-- CP A,d8 (R168). -/
def execCpAD8 (n : Byte) (s : State) : Result := aluOp .cp n 2 s

end Sys2Proof.Machine
end

