-- ==== Sys2Proof/Machine/BitOps.lean ====
section
/-! DEFINITION. BIT, RES and SET (spec/44_rotate_shift_bit.md rule R213 to rule R215). -/

namespace Sys2Proof.Machine

/-! ### The shared operations -/

/-- The effect of `BIT b` of a byte: the flags, and `A` where the build has `BIT_WRITES_A` (rule R213). -/
def applyBit (b : Fin 8) (v : Byte) (s : State) : State :=
  let s₁ := s.setFlags (bitFlags b v s.flagC)
  if s.params.bitWritesA then s₁.setA (v &&& bitMask b) else s₁

/-- `BIT b,r` (rule R213). -/
def bitRegOp (b : Fin 8) (o : Reg) (cost : Nat) (s : State) : Result :=
  complete cost (applyBit b (s.reg o) s)

/-- `BIT b,(HL)`: only the read (rule R204, rule R213). -/
def bitIndOp (b : Fin 8) (cost : Nat) (s : State) : Result :=
  withByte s.hl (fun v s₁ => complete cost (applyBit b v s₁)) s

/-- `RES b,r`: no flags (rule R214). -/
def resRegOp (b : Fin 8) (o : Reg) (cost : Nat) (s : State) : Result :=
  complete cost (s.setReg o (resBit b (s.reg o)))

/-- `RES b,(HL)`: always written, no flags (rule R204, rule R214). -/
def resIndOp (b : Fin 8) (cost : Nat) (s : State) : Result :=
  modifyAtHL (resBit b) (fun _ s₁ => s₁) cost s

/-- `SET b,r`: no flags (rule R215). -/
def setRegOp (b : Fin 8) (o : Reg) (cost : Nat) (s : State) : Result :=
  complete cost (s.setReg o (setBit b (s.reg o)))

/-- `SET b,(HL)`: always written, no flags (rule R204, rule R215). -/
def setIndOp (b : Fin 8) (cost : Nat) (s : State) : Result :=
  modifyAtHL (setBit b) (fun _ s₁ => s₁) cost s

/-! ### One meaning per instruction -/

/-- BIT 0,B (R213). -/
def execBit0B (s : State) : Result := bitRegOp 0 .b 2 s
/-- BIT 0,C (R213). -/
def execBit0C (s : State) : Result := bitRegOp 0 .c 2 s
/-- BIT 0,D (R213). -/
def execBit0D (s : State) : Result := bitRegOp 0 .d 2 s
/-- BIT 0,E (R213). -/
def execBit0E (s : State) : Result := bitRegOp 0 .e 2 s
/-- BIT 0,H (R213). -/
def execBit0H (s : State) : Result := bitRegOp 0 .h 2 s
/-- BIT 0,L (R213). -/
def execBit0L (s : State) : Result := bitRegOp 0 .l 2 s
/-- BIT 0,(HL) (R213). -/
def execBit0IndHL (s : State) : Result := bitIndOp 0 3 s
/-- BIT 0,A (R213). -/
def execBit0A (s : State) : Result := bitRegOp 0 .a 2 s
/-- BIT 1,B (R213). -/
def execBit1B (s : State) : Result := bitRegOp 1 .b 2 s
/-- BIT 1,C (R213). -/
def execBit1C (s : State) : Result := bitRegOp 1 .c 2 s
/-- BIT 1,D (R213). -/
def execBit1D (s : State) : Result := bitRegOp 1 .d 2 s
/-- BIT 1,E (R213). -/
def execBit1E (s : State) : Result := bitRegOp 1 .e 2 s
/-- BIT 1,H (R213). -/
def execBit1H (s : State) : Result := bitRegOp 1 .h 2 s
/-- BIT 1,L (R213). -/
def execBit1L (s : State) : Result := bitRegOp 1 .l 2 s
/-- BIT 1,(HL) (R213). -/
def execBit1IndHL (s : State) : Result := bitIndOp 1 3 s
/-- BIT 1,A (R213). -/
def execBit1A (s : State) : Result := bitRegOp 1 .a 2 s
/-- BIT 2,B (R213). -/
def execBit2B (s : State) : Result := bitRegOp 2 .b 2 s
/-- BIT 2,C (R213). -/
def execBit2C (s : State) : Result := bitRegOp 2 .c 2 s
/-- BIT 2,D (R213). -/
def execBit2D (s : State) : Result := bitRegOp 2 .d 2 s
/-- BIT 2,E (R213). -/
def execBit2E (s : State) : Result := bitRegOp 2 .e 2 s
/-- BIT 2,H (R213). -/
def execBit2H (s : State) : Result := bitRegOp 2 .h 2 s
/-- BIT 2,L (R213). -/
def execBit2L (s : State) : Result := bitRegOp 2 .l 2 s
/-- BIT 2,(HL) (R213). -/
def execBit2IndHL (s : State) : Result := bitIndOp 2 3 s
/-- BIT 2,A (R213). -/
def execBit2A (s : State) : Result := bitRegOp 2 .a 2 s
/-- BIT 3,B (R213). -/
def execBit3B (s : State) : Result := bitRegOp 3 .b 2 s
/-- BIT 3,C (R213). -/
def execBit3C (s : State) : Result := bitRegOp 3 .c 2 s
/-- BIT 3,D (R213). -/
def execBit3D (s : State) : Result := bitRegOp 3 .d 2 s
/-- BIT 3,E (R213). -/
def execBit3E (s : State) : Result := bitRegOp 3 .e 2 s
/-- BIT 3,H (R213). -/
def execBit3H (s : State) : Result := bitRegOp 3 .h 2 s
/-- BIT 3,L (R213). -/
def execBit3L (s : State) : Result := bitRegOp 3 .l 2 s
/-- BIT 3,(HL) (R213). -/
def execBit3IndHL (s : State) : Result := bitIndOp 3 3 s
/-- BIT 3,A (R213). -/
def execBit3A (s : State) : Result := bitRegOp 3 .a 2 s
/-- BIT 4,B (R213). -/
def execBit4B (s : State) : Result := bitRegOp 4 .b 2 s
/-- BIT 4,C (R213). -/
def execBit4C (s : State) : Result := bitRegOp 4 .c 2 s
/-- BIT 4,D (R213). -/
def execBit4D (s : State) : Result := bitRegOp 4 .d 2 s
/-- BIT 4,E (R213). -/
def execBit4E (s : State) : Result := bitRegOp 4 .e 2 s
/-- BIT 4,H (R213). -/
def execBit4H (s : State) : Result := bitRegOp 4 .h 2 s
/-- BIT 4,L (R213). -/
def execBit4L (s : State) : Result := bitRegOp 4 .l 2 s
/-- BIT 4,(HL) (R213). -/
def execBit4IndHL (s : State) : Result := bitIndOp 4 3 s
/-- BIT 4,A (R213). -/
def execBit4A (s : State) : Result := bitRegOp 4 .a 2 s
/-- BIT 5,B (R213). -/
def execBit5B (s : State) : Result := bitRegOp 5 .b 2 s
/-- BIT 5,C (R213). -/
def execBit5C (s : State) : Result := bitRegOp 5 .c 2 s
/-- BIT 5,D (R213). -/
def execBit5D (s : State) : Result := bitRegOp 5 .d 2 s
/-- BIT 5,E (R213). -/
def execBit5E (s : State) : Result := bitRegOp 5 .e 2 s
/-- BIT 5,H (R213). -/
def execBit5H (s : State) : Result := bitRegOp 5 .h 2 s
/-- BIT 5,L (R213). -/
def execBit5L (s : State) : Result := bitRegOp 5 .l 2 s
/-- BIT 5,(HL) (R213). -/
def execBit5IndHL (s : State) : Result := bitIndOp 5 3 s
/-- BIT 5,A (R213). -/
def execBit5A (s : State) : Result := bitRegOp 5 .a 2 s
/-- BIT 6,B (R213). -/
def execBit6B (s : State) : Result := bitRegOp 6 .b 2 s
/-- BIT 6,C (R213). -/
def execBit6C (s : State) : Result := bitRegOp 6 .c 2 s
/-- BIT 6,D (R213). -/
def execBit6D (s : State) : Result := bitRegOp 6 .d 2 s
/-- BIT 6,E (R213). -/
def execBit6E (s : State) : Result := bitRegOp 6 .e 2 s
/-- BIT 6,H (R213). -/
def execBit6H (s : State) : Result := bitRegOp 6 .h 2 s
/-- BIT 6,L (R213). -/
def execBit6L (s : State) : Result := bitRegOp 6 .l 2 s
/-- BIT 6,(HL) (R213). -/
def execBit6IndHL (s : State) : Result := bitIndOp 6 3 s
/-- BIT 6,A (R213). -/
def execBit6A (s : State) : Result := bitRegOp 6 .a 2 s
/-- BIT 7,B (R213). -/
def execBit7B (s : State) : Result := bitRegOp 7 .b 2 s
/-- BIT 7,C (R213). -/
def execBit7C (s : State) : Result := bitRegOp 7 .c 2 s
/-- BIT 7,D (R213). -/
def execBit7D (s : State) : Result := bitRegOp 7 .d 2 s
/-- BIT 7,E (R213). -/
def execBit7E (s : State) : Result := bitRegOp 7 .e 2 s
/-- BIT 7,H (R213). -/
def execBit7H (s : State) : Result := bitRegOp 7 .h 2 s
/-- BIT 7,L (R213). -/
def execBit7L (s : State) : Result := bitRegOp 7 .l 2 s
/-- BIT 7,(HL) (R213). -/
def execBit7IndHL (s : State) : Result := bitIndOp 7 3 s
/-- BIT 7,A (R213). -/
def execBit7A (s : State) : Result := bitRegOp 7 .a 2 s
/-- RES 0,B (R214). -/
def execRes0B (s : State) : Result := resRegOp 0 .b 2 s
/-- RES 0,C (R214). -/
def execRes0C (s : State) : Result := resRegOp 0 .c 2 s
/-- RES 0,D (R214). -/
def execRes0D (s : State) : Result := resRegOp 0 .d 2 s
/-- RES 0,E (R214). -/
def execRes0E (s : State) : Result := resRegOp 0 .e 2 s
/-- RES 0,H (R214). -/
def execRes0H (s : State) : Result := resRegOp 0 .h 2 s
/-- RES 0,L (R214). -/
def execRes0L (s : State) : Result := resRegOp 0 .l 2 s
/-- RES 0,(HL) (R214). -/
def execRes0IndHL (s : State) : Result := resIndOp 0 4 s
/-- RES 0,A (R214). -/
def execRes0A (s : State) : Result := resRegOp 0 .a 2 s
/-- RES 1,B (R214). -/
def execRes1B (s : State) : Result := resRegOp 1 .b 2 s
/-- RES 1,C (R214). -/
def execRes1C (s : State) : Result := resRegOp 1 .c 2 s
/-- RES 1,D (R214). -/
def execRes1D (s : State) : Result := resRegOp 1 .d 2 s
/-- RES 1,E (R214). -/
def execRes1E (s : State) : Result := resRegOp 1 .e 2 s
/-- RES 1,H (R214). -/
def execRes1H (s : State) : Result := resRegOp 1 .h 2 s
/-- RES 1,L (R214). -/
def execRes1L (s : State) : Result := resRegOp 1 .l 2 s
/-- RES 1,(HL) (R214). -/
def execRes1IndHL (s : State) : Result := resIndOp 1 4 s
/-- RES 1,A (R214). -/
def execRes1A (s : State) : Result := resRegOp 1 .a 2 s
/-- RES 2,B (R214). -/
def execRes2B (s : State) : Result := resRegOp 2 .b 2 s
/-- RES 2,C (R214). -/
def execRes2C (s : State) : Result := resRegOp 2 .c 2 s
/-- RES 2,D (R214). -/
def execRes2D (s : State) : Result := resRegOp 2 .d 2 s
/-- RES 2,E (R214). -/
def execRes2E (s : State) : Result := resRegOp 2 .e 2 s
/-- RES 2,H (R214). -/
def execRes2H (s : State) : Result := resRegOp 2 .h 2 s
/-- RES 2,L (R214). -/
def execRes2L (s : State) : Result := resRegOp 2 .l 2 s
/-- RES 2,(HL) (R214). -/
def execRes2IndHL (s : State) : Result := resIndOp 2 4 s
/-- RES 2,A (R214). -/
def execRes2A (s : State) : Result := resRegOp 2 .a 2 s
/-- RES 3,B (R214). -/
def execRes3B (s : State) : Result := resRegOp 3 .b 2 s
/-- RES 3,C (R214). -/
def execRes3C (s : State) : Result := resRegOp 3 .c 2 s
/-- RES 3,D (R214). -/
def execRes3D (s : State) : Result := resRegOp 3 .d 2 s
/-- RES 3,E (R214). -/
def execRes3E (s : State) : Result := resRegOp 3 .e 2 s
/-- RES 3,H (R214). -/
def execRes3H (s : State) : Result := resRegOp 3 .h 2 s
/-- RES 3,L (R214). -/
def execRes3L (s : State) : Result := resRegOp 3 .l 2 s
/-- RES 3,(HL) (R214). -/
def execRes3IndHL (s : State) : Result := resIndOp 3 4 s
/-- RES 3,A (R214). -/
def execRes3A (s : State) : Result := resRegOp 3 .a 2 s
/-- RES 4,B (R214). -/
def execRes4B (s : State) : Result := resRegOp 4 .b 2 s
/-- RES 4,C (R214). -/
def execRes4C (s : State) : Result := resRegOp 4 .c 2 s
/-- RES 4,D (R214). -/
def execRes4D (s : State) : Result := resRegOp 4 .d 2 s
/-- RES 4,E (R214). -/
def execRes4E (s : State) : Result := resRegOp 4 .e 2 s
/-- RES 4,H (R214). -/
def execRes4H (s : State) : Result := resRegOp 4 .h 2 s
/-- RES 4,L (R214). -/
def execRes4L (s : State) : Result := resRegOp 4 .l 2 s
/-- RES 4,(HL) (R214). -/
def execRes4IndHL (s : State) : Result := resIndOp 4 4 s
/-- RES 4,A (R214). -/
def execRes4A (s : State) : Result := resRegOp 4 .a 2 s
/-- RES 5,B (R214). -/
def execRes5B (s : State) : Result := resRegOp 5 .b 2 s
/-- RES 5,C (R214). -/
def execRes5C (s : State) : Result := resRegOp 5 .c 2 s
/-- RES 5,D (R214). -/
def execRes5D (s : State) : Result := resRegOp 5 .d 2 s
/-- RES 5,E (R214). -/
def execRes5E (s : State) : Result := resRegOp 5 .e 2 s
/-- RES 5,H (R214). -/
def execRes5H (s : State) : Result := resRegOp 5 .h 2 s
/-- RES 5,L (R214). -/
def execRes5L (s : State) : Result := resRegOp 5 .l 2 s
/-- RES 5,(HL) (R214). -/
def execRes5IndHL (s : State) : Result := resIndOp 5 4 s
/-- RES 5,A (R214). -/
def execRes5A (s : State) : Result := resRegOp 5 .a 2 s
/-- RES 6,B (R214). -/
def execRes6B (s : State) : Result := resRegOp 6 .b 2 s
/-- RES 6,C (R214). -/
def execRes6C (s : State) : Result := resRegOp 6 .c 2 s
/-- RES 6,D (R214). -/
def execRes6D (s : State) : Result := resRegOp 6 .d 2 s
/-- RES 6,E (R214). -/
def execRes6E (s : State) : Result := resRegOp 6 .e 2 s
/-- RES 6,H (R214). -/
def execRes6H (s : State) : Result := resRegOp 6 .h 2 s
/-- RES 6,L (R214). -/
def execRes6L (s : State) : Result := resRegOp 6 .l 2 s
/-- RES 6,(HL) (R214). -/
def execRes6IndHL (s : State) : Result := resIndOp 6 4 s
/-- RES 6,A (R214). -/
def execRes6A (s : State) : Result := resRegOp 6 .a 2 s
/-- RES 7,B (R214). -/
def execRes7B (s : State) : Result := resRegOp 7 .b 2 s
/-- RES 7,C (R214). -/
def execRes7C (s : State) : Result := resRegOp 7 .c 2 s
/-- RES 7,D (R214). -/
def execRes7D (s : State) : Result := resRegOp 7 .d 2 s
/-- RES 7,E (R214). -/
def execRes7E (s : State) : Result := resRegOp 7 .e 2 s
/-- RES 7,H (R214). -/
def execRes7H (s : State) : Result := resRegOp 7 .h 2 s
/-- RES 7,L (R214). -/
def execRes7L (s : State) : Result := resRegOp 7 .l 2 s
/-- RES 7,(HL) (R214). -/
def execRes7IndHL (s : State) : Result := resIndOp 7 4 s
/-- RES 7,A (R214). -/
def execRes7A (s : State) : Result := resRegOp 7 .a 2 s
/-- SET 0,B (R215). -/
def execSet0B (s : State) : Result := setRegOp 0 .b 2 s
/-- SET 0,C (R215). -/
def execSet0C (s : State) : Result := setRegOp 0 .c 2 s
/-- SET 0,D (R215). -/
def execSet0D (s : State) : Result := setRegOp 0 .d 2 s
/-- SET 0,E (R215). -/
def execSet0E (s : State) : Result := setRegOp 0 .e 2 s
/-- SET 0,H (R215). -/
def execSet0H (s : State) : Result := setRegOp 0 .h 2 s
/-- SET 0,L (R215). -/
def execSet0L (s : State) : Result := setRegOp 0 .l 2 s
/-- SET 0,(HL) (R215). -/
def execSet0IndHL (s : State) : Result := setIndOp 0 4 s
/-- SET 0,A (R215). -/
def execSet0A (s : State) : Result := setRegOp 0 .a 2 s
/-- SET 1,B (R215). -/
def execSet1B (s : State) : Result := setRegOp 1 .b 2 s
/-- SET 1,C (R215). -/
def execSet1C (s : State) : Result := setRegOp 1 .c 2 s
/-- SET 1,D (R215). -/
def execSet1D (s : State) : Result := setRegOp 1 .d 2 s
/-- SET 1,E (R215). -/
def execSet1E (s : State) : Result := setRegOp 1 .e 2 s
/-- SET 1,H (R215). -/
def execSet1H (s : State) : Result := setRegOp 1 .h 2 s
/-- SET 1,L (R215). -/
def execSet1L (s : State) : Result := setRegOp 1 .l 2 s
/-- SET 1,(HL) (R215). -/
def execSet1IndHL (s : State) : Result := setIndOp 1 4 s
/-- SET 1,A (R215). -/
def execSet1A (s : State) : Result := setRegOp 1 .a 2 s
/-- SET 2,B (R215). -/
def execSet2B (s : State) : Result := setRegOp 2 .b 2 s
/-- SET 2,C (R215). -/
def execSet2C (s : State) : Result := setRegOp 2 .c 2 s
/-- SET 2,D (R215). -/
def execSet2D (s : State) : Result := setRegOp 2 .d 2 s
/-- SET 2,E (R215). -/
def execSet2E (s : State) : Result := setRegOp 2 .e 2 s
/-- SET 2,H (R215). -/
def execSet2H (s : State) : Result := setRegOp 2 .h 2 s
/-- SET 2,L (R215). -/
def execSet2L (s : State) : Result := setRegOp 2 .l 2 s
/-- SET 2,(HL) (R215). -/
def execSet2IndHL (s : State) : Result := setIndOp 2 4 s
/-- SET 2,A (R215). -/
def execSet2A (s : State) : Result := setRegOp 2 .a 2 s
/-- SET 3,B (R215). -/
def execSet3B (s : State) : Result := setRegOp 3 .b 2 s
/-- SET 3,C (R215). -/
def execSet3C (s : State) : Result := setRegOp 3 .c 2 s
/-- SET 3,D (R215). -/
def execSet3D (s : State) : Result := setRegOp 3 .d 2 s
/-- SET 3,E (R215). -/
def execSet3E (s : State) : Result := setRegOp 3 .e 2 s
/-- SET 3,H (R215). -/
def execSet3H (s : State) : Result := setRegOp 3 .h 2 s
/-- SET 3,L (R215). -/
def execSet3L (s : State) : Result := setRegOp 3 .l 2 s
/-- SET 3,(HL) (R215). -/
def execSet3IndHL (s : State) : Result := setIndOp 3 4 s
/-- SET 3,A (R215). -/
def execSet3A (s : State) : Result := setRegOp 3 .a 2 s
/-- SET 4,B (R215). -/
def execSet4B (s : State) : Result := setRegOp 4 .b 2 s
/-- SET 4,C (R215). -/
def execSet4C (s : State) : Result := setRegOp 4 .c 2 s
/-- SET 4,D (R215). -/
def execSet4D (s : State) : Result := setRegOp 4 .d 2 s
/-- SET 4,E (R215). -/
def execSet4E (s : State) : Result := setRegOp 4 .e 2 s
/-- SET 4,H (R215). -/
def execSet4H (s : State) : Result := setRegOp 4 .h 2 s
/-- SET 4,L (R215). -/
def execSet4L (s : State) : Result := setRegOp 4 .l 2 s
/-- SET 4,(HL) (R215). -/
def execSet4IndHL (s : State) : Result := setIndOp 4 4 s
/-- SET 4,A (R215). -/
def execSet4A (s : State) : Result := setRegOp 4 .a 2 s
/-- SET 5,B (R215). -/
def execSet5B (s : State) : Result := setRegOp 5 .b 2 s
/-- SET 5,C (R215). -/
def execSet5C (s : State) : Result := setRegOp 5 .c 2 s
/-- SET 5,D (R215). -/
def execSet5D (s : State) : Result := setRegOp 5 .d 2 s
/-- SET 5,E (R215). -/
def execSet5E (s : State) : Result := setRegOp 5 .e 2 s
/-- SET 5,H (R215). -/
def execSet5H (s : State) : Result := setRegOp 5 .h 2 s
/-- SET 5,L (R215). -/
def execSet5L (s : State) : Result := setRegOp 5 .l 2 s
/-- SET 5,(HL) (R215). -/
def execSet5IndHL (s : State) : Result := setIndOp 5 4 s
/-- SET 5,A (R215). -/
def execSet5A (s : State) : Result := setRegOp 5 .a 2 s
/-- SET 6,B (R215). -/
def execSet6B (s : State) : Result := setRegOp 6 .b 2 s
/-- SET 6,C (R215). -/
def execSet6C (s : State) : Result := setRegOp 6 .c 2 s
/-- SET 6,D (R215). -/
def execSet6D (s : State) : Result := setRegOp 6 .d 2 s
/-- SET 6,E (R215). -/
def execSet6E (s : State) : Result := setRegOp 6 .e 2 s
/-- SET 6,H (R215). -/
def execSet6H (s : State) : Result := setRegOp 6 .h 2 s
/-- SET 6,L (R215). -/
def execSet6L (s : State) : Result := setRegOp 6 .l 2 s
/-- SET 6,(HL) (R215). -/
def execSet6IndHL (s : State) : Result := setIndOp 6 4 s
/-- SET 6,A (R215). -/
def execSet6A (s : State) : Result := setRegOp 6 .a 2 s
/-- SET 7,B (R215). -/
def execSet7B (s : State) : Result := setRegOp 7 .b 2 s
/-- SET 7,C (R215). -/
def execSet7C (s : State) : Result := setRegOp 7 .c 2 s
/-- SET 7,D (R215). -/
def execSet7D (s : State) : Result := setRegOp 7 .d 2 s
/-- SET 7,E (R215). -/
def execSet7E (s : State) : Result := setRegOp 7 .e 2 s
/-- SET 7,H (R215). -/
def execSet7H (s : State) : Result := setRegOp 7 .h 2 s
/-- SET 7,L (R215). -/
def execSet7L (s : State) : Result := setRegOp 7 .l 2 s
/-- SET 7,(HL) (R215). -/
def execSet7IndHL (s : State) : Result := setIndOp 7 4 s
/-- SET 7,A (R215). -/
def execSet7A (s : State) : Result := setRegOp 7 .a 2 s

end Sys2Proof.Machine
end

