-- ==== Sys2Proof/Machine/Control.lean ====
section
/-! DEFINITION. The control transfers (spec/45_control.md rule R230 to rule R241). A meaning is entered with `PC` past all
the bytes of its instruction (rule R27, rule R84). -/

namespace Sys2Proof.Machine

/-! ### The shared operations -/

/-- `PC <- target` (rule R231, rule R233, rule R235). -/
def jumpOp (target : Word) (cost : Nat) (s : State) : Result :=
  complete cost (s.setPC target)

/-- Pushes `PC`, the address of the next instruction, and jumps (rule R236, rule R241). -/
def callOp (target : Word) (cost : Nat) (s : State) : Result :=
  match s.push s.pc with
  | .ok s₁ => complete cost (s₁.setPC target)
  | .error (e, s₁) => raise e s₁

/-- Pops `PC` (rule R238; rule R240 for RETI, decision D14). -/
def retOp (cost : Nat) (s : State) : Result :=
  match s.pop with
  | .ok (v, s₁) => complete cost (s₁.setPC v)
  | .error e => raise e s

/-- A conditional form: the transfer where the condition holds, else nothing at the lesser cost (rule R230, rule R305). -/
def whenOp (cc : Cond) (taken : State → Result) (costNotTaken : Nat) (s : State) : Result :=
  if s.cond cc then taken s else complete costNotTaken s

/-! ### One meaning per instruction -/

/-- JR e8 (R231). -/
def execJrE8 (e : Byte) (s : State) : Result := jumpOp (s.pc + signExtendByte e) 3 s
/-- JR NZ,e8 (R232). -/
def execJrNZE8 (e : Byte) (s : State) : Result := whenOp .nz (jumpOp (s.pc + signExtendByte e) 3) 2 s
/-- JR Z,e8 (R232). -/
def execJrZE8 (e : Byte) (s : State) : Result := whenOp .z (jumpOp (s.pc + signExtendByte e) 3) 2 s
/-- JR NC,e8 (R232). -/
def execJrNCE8 (e : Byte) (s : State) : Result := whenOp .nc (jumpOp (s.pc + signExtendByte e) 3) 2 s
/-- JR C,e8 (R232). -/
def execJrCE8 (e : Byte) (s : State) : Result := whenOp .c (jumpOp (s.pc + signExtendByte e) 3) 2 s
/-- RET NZ (R239). -/
def execRetNZ (s : State) : Result := whenOp .nz (retOp 5) 2 s
/-- JP NZ,a16 (R234). -/
def execJpNZA16 (w : Word) (s : State) : Result := whenOp .nz (jumpOp w 4) 3 s
/-- JP a16 (R233). -/
def execJpA16 (w : Word) (s : State) : Result := jumpOp w 4 s
/-- CALL NZ,a16 (R237). -/
def execCallNZA16 (w : Word) (s : State) : Result := whenOp .nz (callOp w 6) 3 s
/-- RST 0x00 (R241). -/
def execRst00 (s : State) : Result := callOp (rstVector 0) 4 s
/-- RET Z (R239). -/
def execRetZ (s : State) : Result := whenOp .z (retOp 5) 2 s
/-- RET (R238). -/
def execRet (s : State) : Result := retOp 4 s
/-- JP Z,a16 (R234). -/
def execJpZA16 (w : Word) (s : State) : Result := whenOp .z (jumpOp w 4) 3 s
/-- CALL Z,a16 (R237). -/
def execCallZA16 (w : Word) (s : State) : Result := whenOp .z (callOp w 6) 3 s
/-- CALL a16 (R236). -/
def execCallA16 (w : Word) (s : State) : Result := callOp w 6 s
/-- RST 0x08 (R241). -/
def execRst08 (s : State) : Result := callOp (rstVector 1) 4 s
/-- RET NC (R239). -/
def execRetNC (s : State) : Result := whenOp .nc (retOp 5) 2 s
/-- JP NC,a16 (R234). -/
def execJpNCA16 (w : Word) (s : State) : Result := whenOp .nc (jumpOp w 4) 3 s
/-- CALL NC,a16 (R237). -/
def execCallNCA16 (w : Word) (s : State) : Result := whenOp .nc (callOp w 6) 3 s
/-- RST 0x10 (R241). -/
def execRst10 (s : State) : Result := callOp (rstVector 2) 4 s
/-- RET C (R239). -/
def execRetC (s : State) : Result := whenOp .c (retOp 5) 2 s
/-- RETI (R240). -/
def execReti (s : State) : Result := retOp 4 s
/-- JP C,a16 (R234). -/
def execJpCA16 (w : Word) (s : State) : Result := whenOp .c (jumpOp w 4) 3 s
/-- CALL C,a16 (R237). -/
def execCallCA16 (w : Word) (s : State) : Result := whenOp .c (callOp w 6) 3 s
/-- RST 0x18 (R241). -/
def execRst18 (s : State) : Result := callOp (rstVector 3) 4 s
/-- RST 0x20 (R241). -/
def execRst20 (s : State) : Result := callOp (rstVector 4) 4 s
/-- JP HL (R235). -/
def execJpHL (s : State) : Result := jumpOp s.hl 1 s
/-- RST 0x28 (R241). -/
def execRst28 (s : State) : Result := callOp (rstVector 5) 4 s
/-- RST 0x30 (R241). -/
def execRst30 (s : State) : Result := callOp (rstVector 6) 4 s
/-- RST 0x38 (R241). -/
def execRst38 (s : State) : Result := callOp (rstVector 7) 4 s

end Sys2Proof.Machine
end

