-- ==== Sys2Proof/Machine/Load16.lean ====
section
/-! DEFINITION. The 16-bit loads, PUSH and POP (spec/41_load16.md rule R140 to rule R147). -/

namespace Sys2Proof.Machine

/-! ### The shared operations -/

/-- `rr <- d16` (rule R141). -/
def ldPairImmOp (rr : Pair) (w : Word) (cost : Nat) (s : State) : Result :=
  complete cost (s.setPair rr w)

/-- `MemWrite(a16, 2, SP)` (rule R142). -/
def storeSPOp (addr : Word) (cost : Nat) (s : State) : Result :=
  match s.write16 addr s.sp with
  | .ok s₁ => complete cost s₁
  | .error (e, s₁) => raise e s₁

/-- `SP <- HL` (rule R143). -/
def ldSPHLOp (cost : Nat) (s : State) : Result :=
  complete cost (s.setSP s.hl)

/-- `HL <- SP + e8` with its flags (rule R144). -/
def ldHLSPOp (e : Byte) (cost : Nat) (s : State) : Result :=
  let r := addSPSigned s.sp e
  complete cost ((s.setFlags r.2).setHL r.1)

/-- `PUSH qq` (rule R145). -/
def pushOp (qq : StackPair) (cost : Nat) (s : State) : Result :=
  match s.push (s.stackPair qq) with
  | .ok s₁ => complete cost s₁
  | .error (e, s₁) => raise e s₁

/-- `POP qq` (rule R146; rule R147 for `AF`, whose low byte is masked by its write, rule R25). -/
def popOp (qq : StackPair) (cost : Nat) (s : State) : Result :=
  match s.pop with
  | .ok (v, s₁) => complete cost (s₁.setStackPair qq v)
  | .error e => raise e s

/-! ### One meaning per instruction -/

/-- LD BC,d16 (R141). -/
def execLdBCD16 (w : Word) (s : State) : Result := ldPairImmOp .bc w 3 s
/-- LD (a16),SP (R142). -/
def execLdIndA16SP (w : Word) (s : State) : Result := storeSPOp w 5 s
/-- LD DE,d16 (R141). -/
def execLdDED16 (w : Word) (s : State) : Result := ldPairImmOp .de w 3 s
/-- LD HL,d16 (R141). -/
def execLdHLD16 (w : Word) (s : State) : Result := ldPairImmOp .hl w 3 s
/-- LD SP,d16 (R141). -/
def execLdSPD16 (w : Word) (s : State) : Result := ldPairImmOp .sp w 3 s
/-- POP BC (R146). -/
def execPopBC (s : State) : Result := popOp .bc 3 s
/-- PUSH BC (R145). -/
def execPushBC (s : State) : Result := pushOp .bc 4 s
/-- POP DE (R146). -/
def execPopDE (s : State) : Result := popOp .de 3 s
/-- PUSH DE (R145). -/
def execPushDE (s : State) : Result := pushOp .de 4 s
/-- POP HL (R146). -/
def execPopHL (s : State) : Result := popOp .hl 3 s
/-- PUSH HL (R145). -/
def execPushHL (s : State) : Result := pushOp .hl 4 s
/-- POP AF (R147). -/
def execPopAF (s : State) : Result := popOp .af 3 s
/-- PUSH AF (R145). -/
def execPushAF (s : State) : Result := pushOp .af 4 s
/-- LD HL,SP+e8 (R144). -/
def execLdHLSPE8 (e : Byte) (s : State) : Result := ldHLSPOp e 3 s
/-- LD SP,HL (R143). -/
def execLdSPHL (s : State) : Result := ldSPHLOp 2 s

end Sys2Proof.Machine
end

