-- ==== Sys2Proof/Machine/Load8.lean ====
section
/-! DEFINITION. The 8-bit loads and stores (spec/40_load8.md rule R110 to rule R129): the shared operations, then one
meaning per instruction, each given its cost in machine cycles (spec/70_reset_and_hazards.md rule R304). -/

namespace Sys2Proof.Machine

/-! ### The shared operations -/

/-- `R8[d] <- R8[s]` (rule R111). -/
def ldRegRegOp (dst src : Reg) (cost : Nat) (s : State) : Result :=
  complete cost (s.setReg dst (s.reg src))

/-- `R8[d] <- n` (rule R114). -/
def ldRegImmOp (dst : Reg) (n : Byte) (cost : Nat) (s : State) : Result :=
  complete cost (s.setReg dst n)

/-- A register from the byte at `addr` (rule R112, rule R116, rule R117, rule R124, rule R126, rule R128). -/
def loadOp (dst : Reg) (addr : Word) (cost : Nat) (s : State) : Result :=
  withByte addr (fun v s₁ => complete cost (s₁.setReg dst v)) s

/-- A byte to the byte at `addr` (rule R113, rule R115, rule R118, rule R119, rule R125, rule R127, rule R129). -/
def storeOp (addr : Word) (v : Byte) (cost : Nat) (s : State) : Result :=
  storeByte addr v (fun s₁ => complete cost s₁) s

/-- `A` from the byte at `HL`, then `HL` moved by `delta` (rule R122, rule R123). -/
def loadStepOp (delta : Word) (cost : Nat) (s : State) : Result :=
  withByte s.hl (fun v s₁ => complete cost ((s₁.setA v).setHL (s.hl + delta))) s

/-- `A` to the byte at `HL`, then `HL` moved by `delta` (rule R120, rule R121). -/
def storeStepOp (delta : Word) (cost : Nat) (s : State) : Result :=
  storeByte s.hl s.a (fun s₁ => complete cost (s₁.setHL (s.hl + delta))) s

/-! ### One meaning per instruction -/

/-- LD (BC),A (R118). -/
def execLdIndBCA (s : State) : Result := storeOp s.bc s.a 2 s
/-- LD B,d8 (R114). -/
def execLdBD8 (n : Byte) (s : State) : Result := ldRegImmOp .b n 2 s
/-- LD A,(BC) (R116). -/
def execLdAIndBC (s : State) : Result := loadOp .a s.bc 2 s
/-- LD C,d8 (R114). -/
def execLdCD8 (n : Byte) (s : State) : Result := ldRegImmOp .c n 2 s
/-- LD (DE),A (R119). -/
def execLdIndDEA (s : State) : Result := storeOp s.de s.a 2 s
/-- LD D,d8 (R114). -/
def execLdDD8 (n : Byte) (s : State) : Result := ldRegImmOp .d n 2 s
/-- LD A,(DE) (R117). -/
def execLdAIndDE (s : State) : Result := loadOp .a s.de 2 s
/-- LD E,d8 (R114). -/
def execLdED8 (n : Byte) (s : State) : Result := ldRegImmOp .e n 2 s
/-- LD (HL+),A (R120). -/
def execLdIndHLIncA (s : State) : Result := storeStepOp 1 2 s
/-- LD H,d8 (R114). -/
def execLdHD8 (n : Byte) (s : State) : Result := ldRegImmOp .h n 2 s
/-- LD A,(HL+) (R122). -/
def execLdAIndHLInc (s : State) : Result := loadStepOp 1 2 s
/-- LD L,d8 (R114). -/
def execLdLD8 (n : Byte) (s : State) : Result := ldRegImmOp .l n 2 s
/-- LD (HL-),A (R121). -/
def execLdIndHLDecA (s : State) : Result := storeStepOp (-1) 2 s
/-- LD (HL),d8 (R115). -/
def execLdIndHLD8 (n : Byte) (s : State) : Result := storeOp s.hl n 3 s
/-- LD A,(HL-) (R123). -/
def execLdAIndHLDec (s : State) : Result := loadStepOp (-1) 2 s
/-- LD A,d8 (R114). -/
def execLdAD8 (n : Byte) (s : State) : Result := ldRegImmOp .a n 2 s
/-- LD B,B (R111). -/
def execLdBB (s : State) : Result := ldRegRegOp .b .b 1 s
/-- LD B,C (R111). -/
def execLdBC (s : State) : Result := ldRegRegOp .b .c 1 s
/-- LD B,D (R111). -/
def execLdBD (s : State) : Result := ldRegRegOp .b .d 1 s
/-- LD B,E (R111). -/
def execLdBE (s : State) : Result := ldRegRegOp .b .e 1 s
/-- LD B,H (R111). -/
def execLdBH (s : State) : Result := ldRegRegOp .b .h 1 s
/-- LD B,L (R111). -/
def execLdBL (s : State) : Result := ldRegRegOp .b .l 1 s
/-- LD B,(HL) (R112). -/
def execLdBIndHL (s : State) : Result := loadOp .b s.hl 2 s
/-- LD B,A (R111). -/
def execLdBA (s : State) : Result := ldRegRegOp .b .a 1 s
/-- LD C,B (R111). -/
def execLdCB (s : State) : Result := ldRegRegOp .c .b 1 s
/-- LD C,C (R111). -/
def execLdCC (s : State) : Result := ldRegRegOp .c .c 1 s
/-- LD C,D (R111). -/
def execLdCD (s : State) : Result := ldRegRegOp .c .d 1 s
/-- LD C,E (R111). -/
def execLdCE (s : State) : Result := ldRegRegOp .c .e 1 s
/-- LD C,H (R111). -/
def execLdCH (s : State) : Result := ldRegRegOp .c .h 1 s
/-- LD C,L (R111). -/
def execLdCL (s : State) : Result := ldRegRegOp .c .l 1 s
/-- LD C,(HL) (R112). -/
def execLdCIndHL (s : State) : Result := loadOp .c s.hl 2 s
/-- LD C,A (R111). -/
def execLdCA (s : State) : Result := ldRegRegOp .c .a 1 s
/-- LD D,B (R111). -/
def execLdDB (s : State) : Result := ldRegRegOp .d .b 1 s
/-- LD D,C (R111). -/
def execLdDC (s : State) : Result := ldRegRegOp .d .c 1 s
/-- LD D,D (R111). -/
def execLdDD (s : State) : Result := ldRegRegOp .d .d 1 s
/-- LD D,E (R111). -/
def execLdDE (s : State) : Result := ldRegRegOp .d .e 1 s
/-- LD D,H (R111). -/
def execLdDH (s : State) : Result := ldRegRegOp .d .h 1 s
/-- LD D,L (R111). -/
def execLdDL (s : State) : Result := ldRegRegOp .d .l 1 s
/-- LD D,(HL) (R112). -/
def execLdDIndHL (s : State) : Result := loadOp .d s.hl 2 s
/-- LD D,A (R111). -/
def execLdDA (s : State) : Result := ldRegRegOp .d .a 1 s
/-- LD E,B (R111). -/
def execLdEB (s : State) : Result := ldRegRegOp .e .b 1 s
/-- LD E,C (R111). -/
def execLdEC (s : State) : Result := ldRegRegOp .e .c 1 s
/-- LD E,D (R111). -/
def execLdED (s : State) : Result := ldRegRegOp .e .d 1 s
/-- LD E,E (R111). -/
def execLdEE (s : State) : Result := ldRegRegOp .e .e 1 s
/-- LD E,H (R111). -/
def execLdEH (s : State) : Result := ldRegRegOp .e .h 1 s
/-- LD E,L (R111). -/
def execLdEL (s : State) : Result := ldRegRegOp .e .l 1 s
/-- LD E,(HL) (R112). -/
def execLdEIndHL (s : State) : Result := loadOp .e s.hl 2 s
/-- LD E,A (R111). -/
def execLdEA (s : State) : Result := ldRegRegOp .e .a 1 s
/-- LD H,B (R111). -/
def execLdHB (s : State) : Result := ldRegRegOp .h .b 1 s
/-- LD H,C (R111). -/
def execLdHC (s : State) : Result := ldRegRegOp .h .c 1 s
/-- LD H,D (R111). -/
def execLdHD (s : State) : Result := ldRegRegOp .h .d 1 s
/-- LD H,E (R111). -/
def execLdHE (s : State) : Result := ldRegRegOp .h .e 1 s
/-- LD H,H (R111). -/
def execLdHH (s : State) : Result := ldRegRegOp .h .h 1 s
/-- LD H,L (R111). -/
def execLdHL (s : State) : Result := ldRegRegOp .h .l 1 s
/-- LD H,(HL) (R112). -/
def execLdHIndHL (s : State) : Result := loadOp .h s.hl 2 s
/-- LD H,A (R111). -/
def execLdHA (s : State) : Result := ldRegRegOp .h .a 1 s
/-- LD L,B (R111). -/
def execLdLB (s : State) : Result := ldRegRegOp .l .b 1 s
/-- LD L,C (R111). -/
def execLdLC (s : State) : Result := ldRegRegOp .l .c 1 s
/-- LD L,D (R111). -/
def execLdLD (s : State) : Result := ldRegRegOp .l .d 1 s
/-- LD L,E (R111). -/
def execLdLE (s : State) : Result := ldRegRegOp .l .e 1 s
/-- LD L,H (R111). -/
def execLdLH (s : State) : Result := ldRegRegOp .l .h 1 s
/-- LD L,L (R111). -/
def execLdLL (s : State) : Result := ldRegRegOp .l .l 1 s
/-- LD L,(HL) (R112). -/
def execLdLIndHL (s : State) : Result := loadOp .l s.hl 2 s
/-- LD L,A (R111). -/
def execLdLA (s : State) : Result := ldRegRegOp .l .a 1 s
/-- LD (HL),B (R113). -/
def execLdIndHLB (s : State) : Result := storeOp s.hl (s.reg .b) 2 s
/-- LD (HL),C (R113). -/
def execLdIndHLC (s : State) : Result := storeOp s.hl (s.reg .c) 2 s
/-- LD (HL),D (R113). -/
def execLdIndHLD (s : State) : Result := storeOp s.hl (s.reg .d) 2 s
/-- LD (HL),E (R113). -/
def execLdIndHLE (s : State) : Result := storeOp s.hl (s.reg .e) 2 s
/-- LD (HL),H (R113). -/
def execLdIndHLH (s : State) : Result := storeOp s.hl (s.reg .h) 2 s
/-- LD (HL),L (R113). -/
def execLdIndHLL (s : State) : Result := storeOp s.hl (s.reg .l) 2 s
/-- LD (HL),A (R113). -/
def execLdIndHLA (s : State) : Result := storeOp s.hl (s.reg .a) 2 s
/-- LD A,B (R111). -/
def execLdAB (s : State) : Result := ldRegRegOp .a .b 1 s
/-- LD A,C (R111). -/
def execLdAC (s : State) : Result := ldRegRegOp .a .c 1 s
/-- LD A,D (R111). -/
def execLdAD (s : State) : Result := ldRegRegOp .a .d 1 s
/-- LD A,E (R111). -/
def execLdAE (s : State) : Result := ldRegRegOp .a .e 1 s
/-- LD A,H (R111). -/
def execLdAH (s : State) : Result := ldRegRegOp .a .h 1 s
/-- LD A,L (R111). -/
def execLdAL (s : State) : Result := ldRegRegOp .a .l 1 s
/-- LD A,(HL) (R112). -/
def execLdAIndHL (s : State) : Result := loadOp .a s.hl 2 s
/-- LD A,A (R111). -/
def execLdAA (s : State) : Result := ldRegRegOp .a .a 1 s
/-- LDH (a8),A (R127). -/
def execLdhIndA8A (n : Byte) (s : State) : Result := storeOp (topPage n) s.a 3 s
/-- LD (C),A (R129). -/
def execLdIndCA (s : State) : Result := storeOp (topPage s.c) s.a 2 s
/-- LD (a16),A (R125). -/
def execLdIndA16A (w : Word) (s : State) : Result := storeOp w s.a 4 s
/-- LDH A,(a8) (R126). -/
def execLdhAIndA8 (n : Byte) (s : State) : Result := loadOp .a (topPage n) 3 s
/-- LD A,(C) (R128). -/
def execLdAIndC (s : State) : Result := loadOp .a (topPage s.c) 2 s
/-- LD A,(a16) (R124). -/
def execLdAIndA16 (w : Word) (s : State) : Result := loadOp .a w 4 s

end Sys2Proof.Machine
end

