-- ==== Sys2Proof/Machine/Rotate.lean ====
section
/-! DEFINITION. The rotates and shifts (spec/44_rotate_shift_bit.md rule R200 to rule R212). -/

namespace Sys2Proof.Machine

/-! ### The shared operations -/

/-- An accumulator rotate: Z is cleared (rule R200 to rule R203). -/
def rotAOp (op : RotOp) (cost : Nat) (s : State) : Result :=
  let r := rotAResult op s.a s.flagC
  complete cost ((s.setA r.1).setFlags r.2)

/-- An extended rotate or shift of a register (rule R204). -/
def rotRegOp (op : RotOp) (o : Reg) (cost : Nat) (s : State) : Result :=
  let r := rotResult op (s.reg o) s.flagC
  complete cost ((s.setReg o r.1).setFlags r.2)

/-- An extended rotate or shift of the byte at `HL`: the flags are written after the store (rule R204). -/
def rotIndOp (op : RotOp) (cost : Nat) (s : State) : Result :=
  modifyAtHL (fun v => (rotResult op v s.flagC).1) (fun v s₁ => s₁.setFlags (rotResult op v s₁.flagC).2) cost s

/-! ### One meaning per instruction -/

/-- RLCA (R200). -/
def execRlca (s : State) : Result := rotAOp .rlc 1 s
/-- RRCA (R201). -/
def execRrca (s : State) : Result := rotAOp .rrc 1 s
/-- RLA (R202). -/
def execRla (s : State) : Result := rotAOp .rl 1 s
/-- RRA (R203). -/
def execRra (s : State) : Result := rotAOp .rr 1 s
/-- RLC B (R205). -/
def execRlcB (s : State) : Result := rotRegOp .rlc .b 2 s
/-- RLC C (R205). -/
def execRlcC (s : State) : Result := rotRegOp .rlc .c 2 s
/-- RLC D (R205). -/
def execRlcD (s : State) : Result := rotRegOp .rlc .d 2 s
/-- RLC E (R205). -/
def execRlcE (s : State) : Result := rotRegOp .rlc .e 2 s
/-- RLC H (R205). -/
def execRlcH (s : State) : Result := rotRegOp .rlc .h 2 s
/-- RLC L (R205). -/
def execRlcL (s : State) : Result := rotRegOp .rlc .l 2 s
/-- RLC (HL) (R205). -/
def execRlcIndHL (s : State) : Result := rotIndOp .rlc 4 s
/-- RLC A (R205). -/
def execRlcA (s : State) : Result := rotRegOp .rlc .a 2 s
/-- RRC B (R206). -/
def execRrcB (s : State) : Result := rotRegOp .rrc .b 2 s
/-- RRC C (R206). -/
def execRrcC (s : State) : Result := rotRegOp .rrc .c 2 s
/-- RRC D (R206). -/
def execRrcD (s : State) : Result := rotRegOp .rrc .d 2 s
/-- RRC E (R206). -/
def execRrcE (s : State) : Result := rotRegOp .rrc .e 2 s
/-- RRC H (R206). -/
def execRrcH (s : State) : Result := rotRegOp .rrc .h 2 s
/-- RRC L (R206). -/
def execRrcL (s : State) : Result := rotRegOp .rrc .l 2 s
/-- RRC (HL) (R206). -/
def execRrcIndHL (s : State) : Result := rotIndOp .rrc 4 s
/-- RRC A (R206). -/
def execRrcA (s : State) : Result := rotRegOp .rrc .a 2 s
/-- RL B (R207). -/
def execRlB (s : State) : Result := rotRegOp .rl .b 2 s
/-- RL C (R207). -/
def execRlC (s : State) : Result := rotRegOp .rl .c 2 s
/-- RL D (R207). -/
def execRlD (s : State) : Result := rotRegOp .rl .d 2 s
/-- RL E (R207). -/
def execRlE (s : State) : Result := rotRegOp .rl .e 2 s
/-- RL H (R207). -/
def execRlH (s : State) : Result := rotRegOp .rl .h 2 s
/-- RL L (R207). -/
def execRlL (s : State) : Result := rotRegOp .rl .l 2 s
/-- RL (HL) (R207). -/
def execRlIndHL (s : State) : Result := rotIndOp .rl 4 s
/-- RL A (R207). -/
def execRlA (s : State) : Result := rotRegOp .rl .a 2 s
/-- RR B (R208). -/
def execRrB (s : State) : Result := rotRegOp .rr .b 2 s
/-- RR C (R208). -/
def execRrC (s : State) : Result := rotRegOp .rr .c 2 s
/-- RR D (R208). -/
def execRrD (s : State) : Result := rotRegOp .rr .d 2 s
/-- RR E (R208). -/
def execRrE (s : State) : Result := rotRegOp .rr .e 2 s
/-- RR H (R208). -/
def execRrH (s : State) : Result := rotRegOp .rr .h 2 s
/-- RR L (R208). -/
def execRrL (s : State) : Result := rotRegOp .rr .l 2 s
/-- RR (HL) (R208). -/
def execRrIndHL (s : State) : Result := rotIndOp .rr 4 s
/-- RR A (R208). -/
def execRrA (s : State) : Result := rotRegOp .rr .a 2 s
/-- SLA B (R209). -/
def execSlaB (s : State) : Result := rotRegOp .sla .b 2 s
/-- SLA C (R209). -/
def execSlaC (s : State) : Result := rotRegOp .sla .c 2 s
/-- SLA D (R209). -/
def execSlaD (s : State) : Result := rotRegOp .sla .d 2 s
/-- SLA E (R209). -/
def execSlaE (s : State) : Result := rotRegOp .sla .e 2 s
/-- SLA H (R209). -/
def execSlaH (s : State) : Result := rotRegOp .sla .h 2 s
/-- SLA L (R209). -/
def execSlaL (s : State) : Result := rotRegOp .sla .l 2 s
/-- SLA (HL) (R209). -/
def execSlaIndHL (s : State) : Result := rotIndOp .sla 4 s
/-- SLA A (R209). -/
def execSlaA (s : State) : Result := rotRegOp .sla .a 2 s
/-- SRA B (R210). -/
def execSraB (s : State) : Result := rotRegOp .sra .b 2 s
/-- SRA C (R210). -/
def execSraC (s : State) : Result := rotRegOp .sra .c 2 s
/-- SRA D (R210). -/
def execSraD (s : State) : Result := rotRegOp .sra .d 2 s
/-- SRA E (R210). -/
def execSraE (s : State) : Result := rotRegOp .sra .e 2 s
/-- SRA H (R210). -/
def execSraH (s : State) : Result := rotRegOp .sra .h 2 s
/-- SRA L (R210). -/
def execSraL (s : State) : Result := rotRegOp .sra .l 2 s
/-- SRA (HL) (R210). -/
def execSraIndHL (s : State) : Result := rotIndOp .sra 4 s
/-- SRA A (R210). -/
def execSraA (s : State) : Result := rotRegOp .sra .a 2 s
/-- SWAP B (R211). -/
def execSwapB (s : State) : Result := rotRegOp .swap .b 2 s
/-- SWAP C (R211). -/
def execSwapC (s : State) : Result := rotRegOp .swap .c 2 s
/-- SWAP D (R211). -/
def execSwapD (s : State) : Result := rotRegOp .swap .d 2 s
/-- SWAP E (R211). -/
def execSwapE (s : State) : Result := rotRegOp .swap .e 2 s
/-- SWAP H (R211). -/
def execSwapH (s : State) : Result := rotRegOp .swap .h 2 s
/-- SWAP L (R211). -/
def execSwapL (s : State) : Result := rotRegOp .swap .l 2 s
/-- SWAP (HL) (R211). -/
def execSwapIndHL (s : State) : Result := rotIndOp .swap 4 s
/-- SWAP A (R211). -/
def execSwapA (s : State) : Result := rotRegOp .swap .a 2 s
/-- SRL B (R212). -/
def execSrlB (s : State) : Result := rotRegOp .srl .b 2 s
/-- SRL C (R212). -/
def execSrlC (s : State) : Result := rotRegOp .srl .c 2 s
/-- SRL D (R212). -/
def execSrlD (s : State) : Result := rotRegOp .srl .d 2 s
/-- SRL E (R212). -/
def execSrlE (s : State) : Result := rotRegOp .srl .e 2 s
/-- SRL H (R212). -/
def execSrlH (s : State) : Result := rotRegOp .srl .h 2 s
/-- SRL L (R212). -/
def execSrlL (s : State) : Result := rotRegOp .srl .l 2 s
/-- SRL (HL) (R212). -/
def execSrlIndHL (s : State) : Result := rotIndOp .srl 4 s
/-- SRL A (R212). -/
def execSrlA (s : State) : Result := rotRegOp .srl .a 2 s

end Sys2Proof.Machine
end

