-- ==== Sys2Proof/Machine/System.lean ====
section
/-! DEFINITION. NOP, EI, DI, HALT and STOP (spec/46_system.md rule R250 to rule R254). -/

namespace Sys2Proof.Machine

/-! ### The shared operations -/

/-- No effect beyond the fetch: NOP, and the stubs EI and DI (rule R250, rule R251, rule R252). -/
def idleOp (cost : Nat) (s : State) : Result :=
  complete cost s

/-- `halted <- true` (rule R253, rule R254). -/
def haltOp (cost : Nat) (s : State) : Result :=
  complete cost { s with halted := true }

/-! ### One meaning per instruction -/

/-- NOP (R250). -/
def execNop (s : State) : Result := idleOp 1 s
/-- STOP (R254): the second byte is fetched and ignored. -/
def execStop (_x : Byte) (s : State) : Result := haltOp 1 s
/-- HALT (R253). -/
def execHalt (s : State) : Result := haltOp 1 s
/-- DI (R252). -/
def execDi (s : State) : Result := idleOp 1 s
/-- EI (R251). -/
def execEi (s : State) : Result := idleOp 1 s

end Sys2Proof.Machine
end

