-- ==== Sys2Proof/Machine/Unmapped.lean ====
section
/-! DEFINITION. The eleven unmapped primary opcodes (spec/30_encoding.md rule R91): the engine turns each into a decode
error (rule R84; spec/60_exceptions.md rule R271; spec/90_conflicts.md C12). -/

namespace Sys2Proof.Machine

/-! ### The shared operations -/

/-- `raise DecodeError{Primary, op, pc0}`: `PC` has advanced past the opcode byte, and the record names the byte's own
address (rule R84, rule R271). -/
def unmappedOpcode (op : Byte) (s : State) : Result :=
  raise (.decodeError .primary op (s.pc - 1)) s

/-! ### One meaning per instruction -/

/-- 0xD3, unmapped (R91). -/
def execUnmappedD3 (s : State) : Result := unmappedOpcode 0xD3 s
/-- 0xDB, unmapped (R91). -/
def execUnmappedDB (s : State) : Result := unmappedOpcode 0xDB s
/-- 0xDD, unmapped (R91). -/
def execUnmappedDD (s : State) : Result := unmappedOpcode 0xDD s
/-- 0xE3, unmapped (R91). -/
def execUnmappedE3 (s : State) : Result := unmappedOpcode 0xE3 s
/-- 0xE4, unmapped (R91). -/
def execUnmappedE4 (s : State) : Result := unmappedOpcode 0xE4 s
/-- 0xEB, unmapped (R91). -/
def execUnmappedEB (s : State) : Result := unmappedOpcode 0xEB s
/-- 0xEC, unmapped (R91). -/
def execUnmappedEC (s : State) : Result := unmappedOpcode 0xEC s
/-- 0xED, unmapped (R91). -/
def execUnmappedED (s : State) : Result := unmappedOpcode 0xED s
/-- 0xF4, unmapped (R91). -/
def execUnmappedF4 (s : State) : Result := unmappedOpcode 0xF4 s
/-- 0xFC, unmapped (R91). -/
def execUnmappedFC (s : State) : Result := unmappedOpcode 0xFC s
/-- 0xFD, unmapped (R91). -/
def execUnmappedFD (s : State) : Result := unmappedOpcode 0xFD s

end Sys2Proof.Machine
end

