-- ==== Sys2Proof/Decode.lean ====
section
/-! DEFINITION. Decoding and encoding (spec/30_encoding.md). The decoder reads the bit fields `x`, `y`, `z`, `p` and `q`
of rule R80 and the field tables of rule R86 to rule R94. The encoder below it is written row by row from
spec/opcode_table.json and the formats of rule R80, so that the two are independent readings of the encoding. -/

namespace Sys2Proof

/-! ### Instructions of one shape, by their operand fields -/

/-- `LD r,r'` (rule R111). -/
def Instr.ldRegReg (dst : Reg) (src : Reg) : Instr :=
  match dst, src with
  | .b, .b => .ldBB
  | .b, .c => .ldBC
  | .b, .d => .ldBD
  | .b, .e => .ldBE
  | .b, .h => .ldBH
  | .b, .l => .ldBL
  | .b, .a => .ldBA
  | .c, .b => .ldCB
  | .c, .c => .ldCC
  | .c, .d => .ldCD
  | .c, .e => .ldCE
  | .c, .h => .ldCH
  | .c, .l => .ldCL
  | .c, .a => .ldCA
  | .d, .b => .ldDB
  | .d, .c => .ldDC
  | .d, .d => .ldDD
  | .d, .e => .ldDE
  | .d, .h => .ldDH
  | .d, .l => .ldDL
  | .d, .a => .ldDA
  | .e, .b => .ldEB
  | .e, .c => .ldEC
  | .e, .d => .ldED
  | .e, .e => .ldEE
  | .e, .h => .ldEH
  | .e, .l => .ldEL
  | .e, .a => .ldEA
  | .h, .b => .ldHB
  | .h, .c => .ldHC
  | .h, .d => .ldHD
  | .h, .e => .ldHE
  | .h, .h => .ldHH
  | .h, .l => .ldHL
  | .h, .a => .ldHA
  | .l, .b => .ldLB
  | .l, .c => .ldLC
  | .l, .d => .ldLD
  | .l, .e => .ldLE
  | .l, .h => .ldLH
  | .l, .l => .ldLL
  | .l, .a => .ldLA
  | .a, .b => .ldAB
  | .a, .c => .ldAC
  | .a, .d => .ldAD
  | .a, .e => .ldAE
  | .a, .h => .ldAH
  | .a, .l => .ldAL
  | .a, .a => .ldAA

/-- `LD r,(HL)` (rule R112). -/
def Instr.ldRegInd (dst : Reg) : Instr :=
  match dst with
  | .b => .ldBIndHL
  | .c => .ldCIndHL
  | .d => .ldDIndHL
  | .e => .ldEIndHL
  | .h => .ldHIndHL
  | .l => .ldLIndHL
  | .a => .ldAIndHL

/-- `LD (HL),r` (rule R113). -/
def Instr.ldIndReg (src : Reg) : Instr :=
  match src with
  | .b => .ldIndHLB
  | .c => .ldIndHLC
  | .d => .ldIndHLD
  | .e => .ldIndHLE
  | .h => .ldIndHLH
  | .l => .ldIndHLL
  | .a => .ldIndHLA

/-- `LD r,d8` (rule R114). -/
def Instr.ldRegImm (dst : Reg) (n : Byte) : Instr :=
  match dst with
  | .b => .ldBD8 n
  | .c => .ldCD8 n
  | .d => .ldDD8 n
  | .e => .ldED8 n
  | .h => .ldHD8 n
  | .l => .ldLD8 n
  | .a => .ldAD8 n

/-- `LD rr,d16` (rule R141). -/
def Instr.ldPairImm (rr : Pair) (w : Word) : Instr :=
  match rr with
  | .bc => .ldBCD16 w
  | .de => .ldDED16 w
  | .hl => .ldHLD16 w
  | .sp => .ldSPD16 w

/-- `PUSH qq` (rule R145). -/
def Instr.pushPair (qq : StackPair) : Instr :=
  match qq with
  | .bc => .pushBC
  | .de => .pushDE
  | .hl => .pushHL
  | .af => .pushAF

/-- `POP qq` (rule R146, and rule R147 for `AF`). -/
def Instr.popPair (qq : StackPair) : Instr :=
  match qq with
  | .bc => .popBC
  | .de => .popDE
  | .hl => .popHL
  | .af => .popAF

/-- The register form of an accumulator operation (rule R160). -/
def Instr.aluReg (op : AluOp) (r : Reg) : Instr :=
  match op, r with
  | .add, .b => .addAB
  | .add, .c => .addAC
  | .add, .d => .addAD
  | .add, .e => .addAE
  | .add, .h => .addAH
  | .add, .l => .addAL
  | .add, .a => .addAA
  | .adc, .b => .adcAB
  | .adc, .c => .adcAC
  | .adc, .d => .adcAD
  | .adc, .e => .adcAE
  | .adc, .h => .adcAH
  | .adc, .l => .adcAL
  | .adc, .a => .adcAA
  | .sub, .b => .subAB
  | .sub, .c => .subAC
  | .sub, .d => .subAD
  | .sub, .e => .subAE
  | .sub, .h => .subAH
  | .sub, .l => .subAL
  | .sub, .a => .subAA
  | .sbc, .b => .sbcAB
  | .sbc, .c => .sbcAC
  | .sbc, .d => .sbcAD
  | .sbc, .e => .sbcAE
  | .sbc, .h => .sbcAH
  | .sbc, .l => .sbcAL
  | .sbc, .a => .sbcAA
  | .and, .b => .andAB
  | .and, .c => .andAC
  | .and, .d => .andAD
  | .and, .e => .andAE
  | .and, .h => .andAH
  | .and, .l => .andAL
  | .and, .a => .andAA
  | .xor, .b => .xorAB
  | .xor, .c => .xorAC
  | .xor, .d => .xorAD
  | .xor, .e => .xorAE
  | .xor, .h => .xorAH
  | .xor, .l => .xorAL
  | .xor, .a => .xorAA
  | .or, .b => .orAB
  | .or, .c => .orAC
  | .or, .d => .orAD
  | .or, .e => .orAE
  | .or, .h => .orAH
  | .or, .l => .orAL
  | .or, .a => .orAA
  | .cp, .b => .cpAB
  | .cp, .c => .cpAC
  | .cp, .d => .cpAD
  | .cp, .e => .cpAE
  | .cp, .h => .cpAH
  | .cp, .l => .cpAL
  | .cp, .a => .cpAA

/-- The `(HL)` form of an accumulator operation (rule R160). -/
def Instr.aluInd (op : AluOp) : Instr :=
  match op with
  | .add => .addAIndHL
  | .adc => .adcAIndHL
  | .sub => .subAIndHL
  | .sbc => .sbcAIndHL
  | .and => .andAIndHL
  | .xor => .xorAIndHL
  | .or => .orAIndHL
  | .cp => .cpAIndHL

/-- The immediate form of an accumulator operation (rule R160). -/
def Instr.aluImm (op : AluOp) (n : Byte) : Instr :=
  match op with
  | .add => .addAD8 n
  | .adc => .adcAD8 n
  | .sub => .subAD8 n
  | .sbc => .sbcAD8 n
  | .and => .andAD8 n
  | .xor => .xorAD8 n
  | .or => .orAD8 n
  | .cp => .cpAD8 n

/-- `INC r` (rule R169). -/
def Instr.incReg (dst : Reg) : Instr :=
  match dst with
  | .b => .incB
  | .c => .incC
  | .d => .incD
  | .e => .incE
  | .h => .incH
  | .l => .incL
  | .a => .incA

/-- `DEC r` (rule R171). -/
def Instr.decReg (dst : Reg) : Instr :=
  match dst with
  | .b => .decB
  | .c => .decC
  | .d => .decD
  | .e => .decE
  | .h => .decH
  | .l => .decL
  | .a => .decA

/-- `INC rr` (rule R190). -/
def Instr.incPair (rr : Pair) : Instr :=
  match rr with
  | .bc => .incBC
  | .de => .incDE
  | .hl => .incHL
  | .sp => .incSP

/-- `DEC rr` (rule R191). -/
def Instr.decPair (rr : Pair) : Instr :=
  match rr with
  | .bc => .decBC
  | .de => .decDE
  | .hl => .decHL
  | .sp => .decSP

/-- `ADD HL,rr` (rule R192). -/
def Instr.addHLPair (rr : Pair) : Instr :=
  match rr with
  | .bc => .addHLBC
  | .de => .addHLDE
  | .hl => .addHLHL
  | .sp => .addHLSP

/-- A rotate or shift of a register (rule R204 to rule R212). -/
def Instr.rotReg (op : RotOp) (r : Reg) : Instr :=
  match op, r with
  | .rlc, .b => .rlcB
  | .rlc, .c => .rlcC
  | .rlc, .d => .rlcD
  | .rlc, .e => .rlcE
  | .rlc, .h => .rlcH
  | .rlc, .l => .rlcL
  | .rlc, .a => .rlcA
  | .rrc, .b => .rrcB
  | .rrc, .c => .rrcC
  | .rrc, .d => .rrcD
  | .rrc, .e => .rrcE
  | .rrc, .h => .rrcH
  | .rrc, .l => .rrcL
  | .rrc, .a => .rrcA
  | .rl, .b => .rlB
  | .rl, .c => .rlC
  | .rl, .d => .rlD
  | .rl, .e => .rlE
  | .rl, .h => .rlH
  | .rl, .l => .rlL
  | .rl, .a => .rlA
  | .rr, .b => .rrB
  | .rr, .c => .rrC
  | .rr, .d => .rrD
  | .rr, .e => .rrE
  | .rr, .h => .rrH
  | .rr, .l => .rrL
  | .rr, .a => .rrA
  | .sla, .b => .slaB
  | .sla, .c => .slaC
  | .sla, .d => .slaD
  | .sla, .e => .slaE
  | .sla, .h => .slaH
  | .sla, .l => .slaL
  | .sla, .a => .slaA
  | .sra, .b => .sraB
  | .sra, .c => .sraC
  | .sra, .d => .sraD
  | .sra, .e => .sraE
  | .sra, .h => .sraH
  | .sra, .l => .sraL
  | .sra, .a => .sraA
  | .swap, .b => .swapB
  | .swap, .c => .swapC
  | .swap, .d => .swapD
  | .swap, .e => .swapE
  | .swap, .h => .swapH
  | .swap, .l => .swapL
  | .swap, .a => .swapA
  | .srl, .b => .srlB
  | .srl, .c => .srlC
  | .srl, .d => .srlD
  | .srl, .e => .srlE
  | .srl, .h => .srlH
  | .srl, .l => .srlL
  | .srl, .a => .srlA

/-- A rotate or shift of the byte at `HL` (rule R204 to rule R212). -/
def Instr.rotInd (op : RotOp) : Instr :=
  match op with
  | .rlc => .rlcIndHL
  | .rrc => .rrcIndHL
  | .rl => .rlIndHL
  | .rr => .rrIndHL
  | .sla => .slaIndHL
  | .sra => .sraIndHL
  | .swap => .swapIndHL
  | .srl => .srlIndHL

/-- `BIT b,r` (rule R213). -/
def Instr.bitReg (b : Fin 8) (r : Reg) : Instr :=
  match b, r with
  | 0, .b => .bit0B
  | 0, .c => .bit0C
  | 0, .d => .bit0D
  | 0, .e => .bit0E
  | 0, .h => .bit0H
  | 0, .l => .bit0L
  | 0, .a => .bit0A
  | 1, .b => .bit1B
  | 1, .c => .bit1C
  | 1, .d => .bit1D
  | 1, .e => .bit1E
  | 1, .h => .bit1H
  | 1, .l => .bit1L
  | 1, .a => .bit1A
  | 2, .b => .bit2B
  | 2, .c => .bit2C
  | 2, .d => .bit2D
  | 2, .e => .bit2E
  | 2, .h => .bit2H
  | 2, .l => .bit2L
  | 2, .a => .bit2A
  | 3, .b => .bit3B
  | 3, .c => .bit3C
  | 3, .d => .bit3D
  | 3, .e => .bit3E
  | 3, .h => .bit3H
  | 3, .l => .bit3L
  | 3, .a => .bit3A
  | 4, .b => .bit4B
  | 4, .c => .bit4C
  | 4, .d => .bit4D
  | 4, .e => .bit4E
  | 4, .h => .bit4H
  | 4, .l => .bit4L
  | 4, .a => .bit4A
  | 5, .b => .bit5B
  | 5, .c => .bit5C
  | 5, .d => .bit5D
  | 5, .e => .bit5E
  | 5, .h => .bit5H
  | 5, .l => .bit5L
  | 5, .a => .bit5A
  | 6, .b => .bit6B
  | 6, .c => .bit6C
  | 6, .d => .bit6D
  | 6, .e => .bit6E
  | 6, .h => .bit6H
  | 6, .l => .bit6L
  | 6, .a => .bit6A
  | 7, .b => .bit7B
  | 7, .c => .bit7C
  | 7, .d => .bit7D
  | 7, .e => .bit7E
  | 7, .h => .bit7H
  | 7, .l => .bit7L
  | 7, .a => .bit7A

/-- `BIT b,(HL)` (rule R213). -/
def Instr.bitInd (b : Fin 8) : Instr :=
  match b with
  | 0 => .bit0IndHL
  | 1 => .bit1IndHL
  | 2 => .bit2IndHL
  | 3 => .bit3IndHL
  | 4 => .bit4IndHL
  | 5 => .bit5IndHL
  | 6 => .bit6IndHL
  | 7 => .bit7IndHL

/-- `RES b,r` (rule R214). -/
def Instr.resReg (b : Fin 8) (r : Reg) : Instr :=
  match b, r with
  | 0, .b => .res0B
  | 0, .c => .res0C
  | 0, .d => .res0D
  | 0, .e => .res0E
  | 0, .h => .res0H
  | 0, .l => .res0L
  | 0, .a => .res0A
  | 1, .b => .res1B
  | 1, .c => .res1C
  | 1, .d => .res1D
  | 1, .e => .res1E
  | 1, .h => .res1H
  | 1, .l => .res1L
  | 1, .a => .res1A
  | 2, .b => .res2B
  | 2, .c => .res2C
  | 2, .d => .res2D
  | 2, .e => .res2E
  | 2, .h => .res2H
  | 2, .l => .res2L
  | 2, .a => .res2A
  | 3, .b => .res3B
  | 3, .c => .res3C
  | 3, .d => .res3D
  | 3, .e => .res3E
  | 3, .h => .res3H
  | 3, .l => .res3L
  | 3, .a => .res3A
  | 4, .b => .res4B
  | 4, .c => .res4C
  | 4, .d => .res4D
  | 4, .e => .res4E
  | 4, .h => .res4H
  | 4, .l => .res4L
  | 4, .a => .res4A
  | 5, .b => .res5B
  | 5, .c => .res5C
  | 5, .d => .res5D
  | 5, .e => .res5E
  | 5, .h => .res5H
  | 5, .l => .res5L
  | 5, .a => .res5A
  | 6, .b => .res6B
  | 6, .c => .res6C
  | 6, .d => .res6D
  | 6, .e => .res6E
  | 6, .h => .res6H
  | 6, .l => .res6L
  | 6, .a => .res6A
  | 7, .b => .res7B
  | 7, .c => .res7C
  | 7, .d => .res7D
  | 7, .e => .res7E
  | 7, .h => .res7H
  | 7, .l => .res7L
  | 7, .a => .res7A

/-- `RES b,(HL)` (rule R214). -/
def Instr.resInd (b : Fin 8) : Instr :=
  match b with
  | 0 => .res0IndHL
  | 1 => .res1IndHL
  | 2 => .res2IndHL
  | 3 => .res3IndHL
  | 4 => .res4IndHL
  | 5 => .res5IndHL
  | 6 => .res6IndHL
  | 7 => .res7IndHL

/-- `SET b,r` (rule R215). -/
def Instr.setReg (b : Fin 8) (r : Reg) : Instr :=
  match b, r with
  | 0, .b => .set0B
  | 0, .c => .set0C
  | 0, .d => .set0D
  | 0, .e => .set0E
  | 0, .h => .set0H
  | 0, .l => .set0L
  | 0, .a => .set0A
  | 1, .b => .set1B
  | 1, .c => .set1C
  | 1, .d => .set1D
  | 1, .e => .set1E
  | 1, .h => .set1H
  | 1, .l => .set1L
  | 1, .a => .set1A
  | 2, .b => .set2B
  | 2, .c => .set2C
  | 2, .d => .set2D
  | 2, .e => .set2E
  | 2, .h => .set2H
  | 2, .l => .set2L
  | 2, .a => .set2A
  | 3, .b => .set3B
  | 3, .c => .set3C
  | 3, .d => .set3D
  | 3, .e => .set3E
  | 3, .h => .set3H
  | 3, .l => .set3L
  | 3, .a => .set3A
  | 4, .b => .set4B
  | 4, .c => .set4C
  | 4, .d => .set4D
  | 4, .e => .set4E
  | 4, .h => .set4H
  | 4, .l => .set4L
  | 4, .a => .set4A
  | 5, .b => .set5B
  | 5, .c => .set5C
  | 5, .d => .set5D
  | 5, .e => .set5E
  | 5, .h => .set5H
  | 5, .l => .set5L
  | 5, .a => .set5A
  | 6, .b => .set6B
  | 6, .c => .set6C
  | 6, .d => .set6D
  | 6, .e => .set6E
  | 6, .h => .set6H
  | 6, .l => .set6L
  | 6, .a => .set6A
  | 7, .b => .set7B
  | 7, .c => .set7C
  | 7, .d => .set7D
  | 7, .e => .set7E
  | 7, .h => .set7H
  | 7, .l => .set7L
  | 7, .a => .set7A

/-- `SET b,(HL)` (rule R215). -/
def Instr.setInd (b : Fin 8) : Instr :=
  match b with
  | 0 => .set0IndHL
  | 1 => .set1IndHL
  | 2 => .set2IndHL
  | 3 => .set3IndHL
  | 4 => .set4IndHL
  | 5 => .set5IndHL
  | 6 => .set6IndHL
  | 7 => .set7IndHL

/-- `JR cc,e8` (rule R232). -/
def Instr.jrCond (cc : Cond) (e : Byte) : Instr :=
  match cc with
  | .nz => .jrNZE8 e
  | .z => .jrZE8 e
  | .nc => .jrNCE8 e
  | .c => .jrCE8 e

/-- `JP cc,a16` (rule R234). -/
def Instr.jpCond (cc : Cond) (w : Word) : Instr :=
  match cc with
  | .nz => .jpNZA16 w
  | .z => .jpZA16 w
  | .nc => .jpNCA16 w
  | .c => .jpCA16 w

/-- `CALL cc,a16` (rule R237). -/
def Instr.callCond (cc : Cond) (w : Word) : Instr :=
  match cc with
  | .nz => .callNZA16 w
  | .z => .callZA16 w
  | .nc => .callNCA16 w
  | .c => .callCA16 w

/-- `RET cc` (rule R239). -/
def Instr.retCond (cc : Cond) : Instr :=
  match cc with
  | .nz => .retNZ
  | .z => .retZ
  | .nc => .retNC
  | .c => .retC

/-- `RST t`, by the field `op[5:3] = t / 8` (rule R89, rule R241). -/
def Instr.rst (k : Fin 8) : Instr :=
  match k with
  | 0 => .rst00
  | 1 => .rst08
  | 2 => .rst10
  | 3 => .rst18
  | 4 => .rst20
  | 5 => .rst28
  | 6 => .rst30
  | 7 => .rst38

/-! ### The operand fields -/

/-- The `r8` field (rule R86). -/
def r8Field (k : Nat) : R8 :=
  match k with
  | 0 => .reg .b
  | 1 => .reg .c
  | 2 => .reg .d
  | 3 => .reg .e
  | 4 => .reg .h
  | 5 => .reg .l
  | 6 => .indHL
  | _ => .reg .a

/-- The `rr` table of the field `p` (rule R87). -/
def pairField (p : Nat) : Pair :=
  match p with
  | 0 => .bc
  | 1 => .de
  | 2 => .hl
  | _ => .sp

/-- The `qq` table of the field `p` (rule R87). -/
def stackPairField (p : Nat) : StackPair :=
  match p with
  | 0 => .bc
  | 1 => .de
  | 2 => .hl
  | _ => .af

/-- The condition field `cc` (rule R88). -/
def condField (k : Nat) : Cond :=
  match k with
  | 0 => .nz
  | 1 => .z
  | 2 => .nc
  | _ => .c

/-- The accumulator operation field (rule R93). -/
def aluField (y : Nat) : AluOp :=
  match y with
  | 0 => .add
  | 1 => .adc
  | 2 => .sub
  | 3 => .sbc
  | 4 => .and
  | 5 => .xor
  | 6 => .or
  | _ => .cp

/-- The rotate and shift operation field (rule R90). -/
def rotField (y : Nat) : RotOp :=
  match y with
  | 0 => .rlc
  | 1 => .rrc
  | 2 => .rl
  | 3 => .rr
  | 4 => .sla
  | 5 => .sra
  | 6 => .swap
  | _ => .srl

/-- A three-bit field as an index: the bit number `b` of rule R90, the vector number of rule R89. -/
def indexField (y : Nat) : Fin 8 := ⟨y % 8, Nat.mod_lt y (by decide)⟩

/-! ### The primary table -/

/-- What a first byte says of its instruction (rule R80, rule R96): how many more bytes it has, and which instruction
they make. -/
inductive Opening where
  /-- One byte long: the instruction itself. -/
  | plain (i : Instr)
  /-- One immediate byte follows (formats `P2i`, `P2e`, `P2s`). -/
  | imm8 (f : Byte → Instr)
  /-- Two immediate bytes follow, low byte first (format `P3`). -/
  | imm16 (f : Word → Instr)
  /-- The prefix 0xCB: an extended opcode follows. -/
  | prefixed

/-- Quadrant 0 (`x = 0`), by the fields `y` and `z` (rule R80, rule R87, rule R93). -/
def decodeQuadrant0 (y z : Nat) : Opening :=
  match z with
  | 0 =>
    match y with
    | 0 => .plain .nop
    | 1 => .imm16 .ldIndA16SP
    | 2 => .imm8 .stop
    | 3 => .imm8 .jrE8
    | _ => .imm8 (.jrCond (condField (y - 4)))
  | 1 =>
    if y % 2 = 0 then .imm16 (.ldPairImm (pairField (y / 2)))
    else .plain (.addHLPair (pairField (y / 2)))
  | 2 =>
    match y with
    | 0 => .plain .ldIndBCA
    | 1 => .plain .ldAIndBC
    | 2 => .plain .ldIndDEA
    | 3 => .plain .ldAIndDE
    | 4 => .plain .ldIndHLIncA
    | 5 => .plain .ldAIndHLInc
    | 6 => .plain .ldIndHLDecA
    | _ => .plain .ldAIndHLDec
  | 3 =>
    if y % 2 = 0 then .plain (.incPair (pairField (y / 2)))
    else .plain (.decPair (pairField (y / 2)))
  | 4 =>
    match r8Field y with
    | .reg r => .plain (.incReg r)
    | .indHL => .plain .incIndHL
  | 5 =>
    match r8Field y with
    | .reg r => .plain (.decReg r)
    | .indHL => .plain .decIndHL
  | 6 =>
    match r8Field y with
    | .reg r => .imm8 (.ldRegImm r)
    | .indHL => .imm8 .ldIndHLD8
  | _ =>
    match y with
    | 0 => .plain .rlca
    | 1 => .plain .rrca
    | 2 => .plain .rla
    | 3 => .plain .rra
    | 4 => .plain .daa
    | 5 => .plain .cpl
    | 6 => .plain .scf
    | _ => .plain .ccf

/-- Quadrant 1 (`x = 1`): `LD R8[y],R8[z]`, but HALT where both fields would be `(HL)` (rule R93). -/
def decodeQuadrant1 (y z : Nat) : Instr :=
  match r8Field y, r8Field z with
  | .reg dst, .reg src => .ldRegReg dst src
  | .reg dst, .indHL => .ldRegInd dst
  | .indHL, .reg src => .ldIndReg src
  | .indHL, .indHL => .halt

/-- Quadrant 2 (`x = 2`): the accumulator operations (rule R160). -/
def decodeQuadrant2 (y z : Nat) : Instr :=
  match r8Field z with
  | .reg r => .aluReg (aluField y) r
  | .indHL => .aluInd (aluField y)

/-- Quadrant 3 (`x = 3`), with the eleven unmapped values of rule R91 and the prefix 0xCB. -/
def decodeQuadrant3 (y z : Nat) : Opening :=
  match z with
  | 0 =>
    match y with
    | 4 => .imm8 .ldhIndA8A
    | 5 => .imm8 .addSPE8
    | 6 => .imm8 .ldhAIndA8
    | 7 => .imm8 .ldHLSPE8
    | _ => .plain (.retCond (condField y))
  | 1 =>
    match y with
    | 1 => .plain .ret
    | 3 => .plain .reti
    | 5 => .plain .jpHL
    | 7 => .plain .ldSPHL
    | _ => .plain (.popPair (stackPairField (y / 2)))
  | 2 =>
    match y with
    | 4 => .plain .ldIndCA
    | 5 => .imm16 .ldIndA16A
    | 6 => .plain .ldAIndC
    | 7 => .imm16 .ldAIndA16
    | _ => .imm16 (.jpCond (condField y))
  | 3 =>
    match y with
    | 0 => .imm16 .jpA16
    | 1 => .prefixed
    | 2 => .plain .unmappedD3
    | 3 => .plain .unmappedDB
    | 4 => .plain .unmappedE3
    | 5 => .plain .unmappedEB
    | 6 => .plain .di
    | _ => .plain .ei
  | 4 =>
    match y with
    | 4 => .plain .unmappedE4
    | 5 => .plain .unmappedEC
    | 6 => .plain .unmappedF4
    | 7 => .plain .unmappedFC
    | _ => .imm16 (.callCond (condField y))
  | 5 =>
    match y with
    | 1 => .imm16 .callA16
    | 3 => .plain .unmappedDD
    | 5 => .plain .unmappedED
    | 7 => .plain .unmappedFD
    | _ => .plain (.pushPair (stackPairField (y / 2)))
  | 6 => .imm8 (.aluImm (aluField y))
  | _ => .plain (.rst (indexField y))

/-- The primary table, total over the 256 opcode bytes (rule R85, rule R93; spec/90_conflicts.md C12). -/
def decodePrimary (op : Byte) : Opening :=
  let y := op.toNat / 8 % 8
  let z := op.toNat % 8
  match op.toNat / 64 with
  | 0 => decodeQuadrant0 y z
  | 1 => .plain (decodeQuadrant1 y z)
  | 2 => .plain (decodeQuadrant2 y z)
  | _ => decodeQuadrant3 y z

/-- The extended table, total over the 256 extended opcode bytes (rule R90, rule R94). -/
def decodeExtended (ext : Byte) : Instr :=
  let y := ext.toNat / 8 % 8
  let o := r8Field (ext.toNat % 8)
  match ext.toNat / 64, o with
  | 0, .reg r => .rotReg (rotField y) r
  | 0, .indHL => .rotInd (rotField y)
  | 1, .reg r => .bitReg (indexField y) r
  | 1, .indHL => .bitInd (indexField y)
  | 2, .reg r => .resReg (indexField y) r
  | 2, .indHL => .resInd (indexField y)
  | _, .reg r => .setReg (indexField y) r
  | _, .indHL => .setInd (indexField y)

/-! ### The dispatch tables' opcode sets -/

/-- The eleven unmapped primary opcode values (rule R91). -/
def unmappedPrimary : List Byte :=
  [0xD3, 0xDB, 0xDD, 0xE3, 0xE4, 0xEB, 0xEC, 0xED, 0xF4, 0xFC, 0xFD]

/-- Whether the build leaves a primary opcode out of its default table. The prefix 0xCB is tested for before the table,
so that leaving it out means nothing (rule R84, rule R92). -/
def Params.leavesOutPrimary (p : Params) (op : Byte) : Bool := op != 0xCB && p.leftOutPrimary.contains op

/-- Whether the build leaves an extended opcode out of its default table (rule R92). -/
def Params.leavesOutExtended (p : Params) (ext : Byte) : Bool := p.leftOutCB.contains ext

/-- `op ∈ MAPPED_PRIMARY` (rule R6, rule R92). -/
def Params.mapsPrimary (p : Params) (op : Byte) : Bool :=
  op != 0xCB && !unmappedPrimary.contains op && !p.leavesOutPrimary op

/-- `ext ∈ MAPPED_CB` (rule R6, rule R92). -/
def Params.mapsExtended (p : Params) (ext : Byte) : Bool := !p.leavesOutExtended ext

/-! ### Decoding a byte sequence -/

/-- A 16-bit immediate from its two bytes, low byte first (rule R82, rule R83). -/
def immWord (lo hi : Byte) : Word := hi ++ lo

/-- The low byte of an immediate word, the first in the stream (rule R82). -/
def immLow (w : Word) : Byte := w.extractLsb' 0 8

/-- The high byte of an immediate word, the second in the stream (rule R82). -/
def immHigh (w : Word) : Byte := w.extractLsb' 8 8

/-- Why the decoder gives no instruction. Every opcode byte has an `Instr` (the unmapped ones too), so a byte sequence is
rejected only where it ends inside an instruction. -/
inductive DecodeReject where
  /-- No opcode byte. -/
  | noOpcode
  /-- 0xCB with no extended opcode byte after it. -/
  | noExtendedOpcode
  /-- An opcode whose one immediate byte is missing. -/
  | noImmediateByte
  /-- An opcode whose two immediate bytes are not both there. -/
  | noImmediateWord
deriving DecidableEq, Repr

/-- Decodes the instruction at the head of a byte sequence, with the bytes that follow it (rule R80, rule R85). -/
def decode (bytes : List Byte) : Except DecodeReject (Instr × List Byte) :=
  match bytes with
  | [] => .error .noOpcode
  | op :: rest =>
    match decodePrimary op, rest with
    | .plain i, rest => .ok (i, rest)
    | .imm8 f, n :: rest => .ok (f n, rest)
    | .imm8 _, [] => .error .noImmediateByte
    | .imm16 f, lo :: hi :: rest => .ok (f (immWord lo hi), rest)
    | .imm16 _, _ => .error .noImmediateWord
    | .prefixed, ext :: rest => .ok (decodeExtended ext, rest)
    | .prefixed, [] => .error .noExtendedOpcode

/-! ### Encoding -/

/-- The bytes of an instruction in stream order: its row of spec/opcode_table.json, then its immediate (rule R80). -/
def encode (i : Instr) : List Byte :=
  match i with
  | .nop => [0x00]
  | .ldBCD16 w => [0x01, immLow w, immHigh w]
  | .ldIndBCA => [0x02]
  | .incBC => [0x03]
  | .incB => [0x04]
  | .decB => [0x05]
  | .ldBD8 n => [0x06, n]
  | .rlca => [0x07]
  | .ldIndA16SP w => [0x08, immLow w, immHigh w]
  | .addHLBC => [0x09]
  | .ldAIndBC => [0x0A]
  | .decBC => [0x0B]
  | .incC => [0x0C]
  | .decC => [0x0D]
  | .ldCD8 n => [0x0E, n]
  | .rrca => [0x0F]
  | .stop x => [0x10, x]
  | .ldDED16 w => [0x11, immLow w, immHigh w]
  | .ldIndDEA => [0x12]
  | .incDE => [0x13]
  | .incD => [0x14]
  | .decD => [0x15]
  | .ldDD8 n => [0x16, n]
  | .rla => [0x17]
  | .jrE8 e => [0x18, e]
  | .addHLDE => [0x19]
  | .ldAIndDE => [0x1A]
  | .decDE => [0x1B]
  | .incE => [0x1C]
  | .decE => [0x1D]
  | .ldED8 n => [0x1E, n]
  | .rra => [0x1F]
  | .jrNZE8 e => [0x20, e]
  | .ldHLD16 w => [0x21, immLow w, immHigh w]
  | .ldIndHLIncA => [0x22]
  | .incHL => [0x23]
  | .incH => [0x24]
  | .decH => [0x25]
  | .ldHD8 n => [0x26, n]
  | .daa => [0x27]
  | .jrZE8 e => [0x28, e]
  | .addHLHL => [0x29]
  | .ldAIndHLInc => [0x2A]
  | .decHL => [0x2B]
  | .incL => [0x2C]
  | .decL => [0x2D]
  | .ldLD8 n => [0x2E, n]
  | .cpl => [0x2F]
  | .jrNCE8 e => [0x30, e]
  | .ldSPD16 w => [0x31, immLow w, immHigh w]
  | .ldIndHLDecA => [0x32]
  | .incSP => [0x33]
  | .incIndHL => [0x34]
  | .decIndHL => [0x35]
  | .ldIndHLD8 n => [0x36, n]
  | .scf => [0x37]
  | .jrCE8 e => [0x38, e]
  | .addHLSP => [0x39]
  | .ldAIndHLDec => [0x3A]
  | .decSP => [0x3B]
  | .incA => [0x3C]
  | .decA => [0x3D]
  | .ldAD8 n => [0x3E, n]
  | .ccf => [0x3F]
  | .ldBB => [0x40]
  | .ldBC => [0x41]
  | .ldBD => [0x42]
  | .ldBE => [0x43]
  | .ldBH => [0x44]
  | .ldBL => [0x45]
  | .ldBIndHL => [0x46]
  | .ldBA => [0x47]
  | .ldCB => [0x48]
  | .ldCC => [0x49]
  | .ldCD => [0x4A]
  | .ldCE => [0x4B]
  | .ldCH => [0x4C]
  | .ldCL => [0x4D]
  | .ldCIndHL => [0x4E]
  | .ldCA => [0x4F]
  | .ldDB => [0x50]
  | .ldDC => [0x51]
  | .ldDD => [0x52]
  | .ldDE => [0x53]
  | .ldDH => [0x54]
  | .ldDL => [0x55]
  | .ldDIndHL => [0x56]
  | .ldDA => [0x57]
  | .ldEB => [0x58]
  | .ldEC => [0x59]
  | .ldED => [0x5A]
  | .ldEE => [0x5B]
  | .ldEH => [0x5C]
  | .ldEL => [0x5D]
  | .ldEIndHL => [0x5E]
  | .ldEA => [0x5F]
  | .ldHB => [0x60]
  | .ldHC => [0x61]
  | .ldHD => [0x62]
  | .ldHE => [0x63]
  | .ldHH => [0x64]
  | .ldHL => [0x65]
  | .ldHIndHL => [0x66]
  | .ldHA => [0x67]
  | .ldLB => [0x68]
  | .ldLC => [0x69]
  | .ldLD => [0x6A]
  | .ldLE => [0x6B]
  | .ldLH => [0x6C]
  | .ldLL => [0x6D]
  | .ldLIndHL => [0x6E]
  | .ldLA => [0x6F]
  | .ldIndHLB => [0x70]
  | .ldIndHLC => [0x71]
  | .ldIndHLD => [0x72]
  | .ldIndHLE => [0x73]
  | .ldIndHLH => [0x74]
  | .ldIndHLL => [0x75]
  | .halt => [0x76]
  | .ldIndHLA => [0x77]
  | .ldAB => [0x78]
  | .ldAC => [0x79]
  | .ldAD => [0x7A]
  | .ldAE => [0x7B]
  | .ldAH => [0x7C]
  | .ldAL => [0x7D]
  | .ldAIndHL => [0x7E]
  | .ldAA => [0x7F]
  | .addAB => [0x80]
  | .addAC => [0x81]
  | .addAD => [0x82]
  | .addAE => [0x83]
  | .addAH => [0x84]
  | .addAL => [0x85]
  | .addAIndHL => [0x86]
  | .addAA => [0x87]
  | .adcAB => [0x88]
  | .adcAC => [0x89]
  | .adcAD => [0x8A]
  | .adcAE => [0x8B]
  | .adcAH => [0x8C]
  | .adcAL => [0x8D]
  | .adcAIndHL => [0x8E]
  | .adcAA => [0x8F]
  | .subAB => [0x90]
  | .subAC => [0x91]
  | .subAD => [0x92]
  | .subAE => [0x93]
  | .subAH => [0x94]
  | .subAL => [0x95]
  | .subAIndHL => [0x96]
  | .subAA => [0x97]
  | .sbcAB => [0x98]
  | .sbcAC => [0x99]
  | .sbcAD => [0x9A]
  | .sbcAE => [0x9B]
  | .sbcAH => [0x9C]
  | .sbcAL => [0x9D]
  | .sbcAIndHL => [0x9E]
  | .sbcAA => [0x9F]
  | .andAB => [0xA0]
  | .andAC => [0xA1]
  | .andAD => [0xA2]
  | .andAE => [0xA3]
  | .andAH => [0xA4]
  | .andAL => [0xA5]
  | .andAIndHL => [0xA6]
  | .andAA => [0xA7]
  | .xorAB => [0xA8]
  | .xorAC => [0xA9]
  | .xorAD => [0xAA]
  | .xorAE => [0xAB]
  | .xorAH => [0xAC]
  | .xorAL => [0xAD]
  | .xorAIndHL => [0xAE]
  | .xorAA => [0xAF]
  | .orAB => [0xB0]
  | .orAC => [0xB1]
  | .orAD => [0xB2]
  | .orAE => [0xB3]
  | .orAH => [0xB4]
  | .orAL => [0xB5]
  | .orAIndHL => [0xB6]
  | .orAA => [0xB7]
  | .cpAB => [0xB8]
  | .cpAC => [0xB9]
  | .cpAD => [0xBA]
  | .cpAE => [0xBB]
  | .cpAH => [0xBC]
  | .cpAL => [0xBD]
  | .cpAIndHL => [0xBE]
  | .cpAA => [0xBF]
  | .retNZ => [0xC0]
  | .popBC => [0xC1]
  | .jpNZA16 w => [0xC2, immLow w, immHigh w]
  | .jpA16 w => [0xC3, immLow w, immHigh w]
  | .callNZA16 w => [0xC4, immLow w, immHigh w]
  | .pushBC => [0xC5]
  | .addAD8 n => [0xC6, n]
  | .rst00 => [0xC7]
  | .retZ => [0xC8]
  | .ret => [0xC9]
  | .jpZA16 w => [0xCA, immLow w, immHigh w]
  | .callZA16 w => [0xCC, immLow w, immHigh w]
  | .callA16 w => [0xCD, immLow w, immHigh w]
  | .adcAD8 n => [0xCE, n]
  | .rst08 => [0xCF]
  | .retNC => [0xD0]
  | .popDE => [0xD1]
  | .jpNCA16 w => [0xD2, immLow w, immHigh w]
  | .callNCA16 w => [0xD4, immLow w, immHigh w]
  | .pushDE => [0xD5]
  | .subAD8 n => [0xD6, n]
  | .rst10 => [0xD7]
  | .retC => [0xD8]
  | .reti => [0xD9]
  | .jpCA16 w => [0xDA, immLow w, immHigh w]
  | .callCA16 w => [0xDC, immLow w, immHigh w]
  | .sbcAD8 n => [0xDE, n]
  | .rst18 => [0xDF]
  | .ldhIndA8A n => [0xE0, n]
  | .popHL => [0xE1]
  | .ldIndCA => [0xE2]
  | .pushHL => [0xE5]
  | .andAD8 n => [0xE6, n]
  | .rst20 => [0xE7]
  | .addSPE8 e => [0xE8, e]
  | .jpHL => [0xE9]
  | .ldIndA16A w => [0xEA, immLow w, immHigh w]
  | .xorAD8 n => [0xEE, n]
  | .rst28 => [0xEF]
  | .ldhAIndA8 n => [0xF0, n]
  | .popAF => [0xF1]
  | .ldAIndC => [0xF2]
  | .di => [0xF3]
  | .pushAF => [0xF5]
  | .orAD8 n => [0xF6, n]
  | .rst30 => [0xF7]
  | .ldHLSPE8 e => [0xF8, e]
  | .ldSPHL => [0xF9]
  | .ldAIndA16 w => [0xFA, immLow w, immHigh w]
  | .ei => [0xFB]
  | .cpAD8 n => [0xFE, n]
  | .rst38 => [0xFF]
  | .rlcB => [0xCB, 0x00]
  | .rlcC => [0xCB, 0x01]
  | .rlcD => [0xCB, 0x02]
  | .rlcE => [0xCB, 0x03]
  | .rlcH => [0xCB, 0x04]
  | .rlcL => [0xCB, 0x05]
  | .rlcIndHL => [0xCB, 0x06]
  | .rlcA => [0xCB, 0x07]
  | .rrcB => [0xCB, 0x08]
  | .rrcC => [0xCB, 0x09]
  | .rrcD => [0xCB, 0x0A]
  | .rrcE => [0xCB, 0x0B]
  | .rrcH => [0xCB, 0x0C]
  | .rrcL => [0xCB, 0x0D]
  | .rrcIndHL => [0xCB, 0x0E]
  | .rrcA => [0xCB, 0x0F]
  | .rlB => [0xCB, 0x10]
  | .rlC => [0xCB, 0x11]
  | .rlD => [0xCB, 0x12]
  | .rlE => [0xCB, 0x13]
  | .rlH => [0xCB, 0x14]
  | .rlL => [0xCB, 0x15]
  | .rlIndHL => [0xCB, 0x16]
  | .rlA => [0xCB, 0x17]
  | .rrB => [0xCB, 0x18]
  | .rrC => [0xCB, 0x19]
  | .rrD => [0xCB, 0x1A]
  | .rrE => [0xCB, 0x1B]
  | .rrH => [0xCB, 0x1C]
  | .rrL => [0xCB, 0x1D]
  | .rrIndHL => [0xCB, 0x1E]
  | .rrA => [0xCB, 0x1F]
  | .slaB => [0xCB, 0x20]
  | .slaC => [0xCB, 0x21]
  | .slaD => [0xCB, 0x22]
  | .slaE => [0xCB, 0x23]
  | .slaH => [0xCB, 0x24]
  | .slaL => [0xCB, 0x25]
  | .slaIndHL => [0xCB, 0x26]
  | .slaA => [0xCB, 0x27]
  | .sraB => [0xCB, 0x28]
  | .sraC => [0xCB, 0x29]
  | .sraD => [0xCB, 0x2A]
  | .sraE => [0xCB, 0x2B]
  | .sraH => [0xCB, 0x2C]
  | .sraL => [0xCB, 0x2D]
  | .sraIndHL => [0xCB, 0x2E]
  | .sraA => [0xCB, 0x2F]
  | .swapB => [0xCB, 0x30]
  | .swapC => [0xCB, 0x31]
  | .swapD => [0xCB, 0x32]
  | .swapE => [0xCB, 0x33]
  | .swapH => [0xCB, 0x34]
  | .swapL => [0xCB, 0x35]
  | .swapIndHL => [0xCB, 0x36]
  | .swapA => [0xCB, 0x37]
  | .srlB => [0xCB, 0x38]
  | .srlC => [0xCB, 0x39]
  | .srlD => [0xCB, 0x3A]
  | .srlE => [0xCB, 0x3B]
  | .srlH => [0xCB, 0x3C]
  | .srlL => [0xCB, 0x3D]
  | .srlIndHL => [0xCB, 0x3E]
  | .srlA => [0xCB, 0x3F]
  | .bit0B => [0xCB, 0x40]
  | .bit0C => [0xCB, 0x41]
  | .bit0D => [0xCB, 0x42]
  | .bit0E => [0xCB, 0x43]
  | .bit0H => [0xCB, 0x44]
  | .bit0L => [0xCB, 0x45]
  | .bit0IndHL => [0xCB, 0x46]
  | .bit0A => [0xCB, 0x47]
  | .bit1B => [0xCB, 0x48]
  | .bit1C => [0xCB, 0x49]
  | .bit1D => [0xCB, 0x4A]
  | .bit1E => [0xCB, 0x4B]
  | .bit1H => [0xCB, 0x4C]
  | .bit1L => [0xCB, 0x4D]
  | .bit1IndHL => [0xCB, 0x4E]
  | .bit1A => [0xCB, 0x4F]
  | .bit2B => [0xCB, 0x50]
  | .bit2C => [0xCB, 0x51]
  | .bit2D => [0xCB, 0x52]
  | .bit2E => [0xCB, 0x53]
  | .bit2H => [0xCB, 0x54]
  | .bit2L => [0xCB, 0x55]
  | .bit2IndHL => [0xCB, 0x56]
  | .bit2A => [0xCB, 0x57]
  | .bit3B => [0xCB, 0x58]
  | .bit3C => [0xCB, 0x59]
  | .bit3D => [0xCB, 0x5A]
  | .bit3E => [0xCB, 0x5B]
  | .bit3H => [0xCB, 0x5C]
  | .bit3L => [0xCB, 0x5D]
  | .bit3IndHL => [0xCB, 0x5E]
  | .bit3A => [0xCB, 0x5F]
  | .bit4B => [0xCB, 0x60]
  | .bit4C => [0xCB, 0x61]
  | .bit4D => [0xCB, 0x62]
  | .bit4E => [0xCB, 0x63]
  | .bit4H => [0xCB, 0x64]
  | .bit4L => [0xCB, 0x65]
  | .bit4IndHL => [0xCB, 0x66]
  | .bit4A => [0xCB, 0x67]
  | .bit5B => [0xCB, 0x68]
  | .bit5C => [0xCB, 0x69]
  | .bit5D => [0xCB, 0x6A]
  | .bit5E => [0xCB, 0x6B]
  | .bit5H => [0xCB, 0x6C]
  | .bit5L => [0xCB, 0x6D]
  | .bit5IndHL => [0xCB, 0x6E]
  | .bit5A => [0xCB, 0x6F]
  | .bit6B => [0xCB, 0x70]
  | .bit6C => [0xCB, 0x71]
  | .bit6D => [0xCB, 0x72]
  | .bit6E => [0xCB, 0x73]
  | .bit6H => [0xCB, 0x74]
  | .bit6L => [0xCB, 0x75]
  | .bit6IndHL => [0xCB, 0x76]
  | .bit6A => [0xCB, 0x77]
  | .bit7B => [0xCB, 0x78]
  | .bit7C => [0xCB, 0x79]
  | .bit7D => [0xCB, 0x7A]
  | .bit7E => [0xCB, 0x7B]
  | .bit7H => [0xCB, 0x7C]
  | .bit7L => [0xCB, 0x7D]
  | .bit7IndHL => [0xCB, 0x7E]
  | .bit7A => [0xCB, 0x7F]
  | .res0B => [0xCB, 0x80]
  | .res0C => [0xCB, 0x81]
  | .res0D => [0xCB, 0x82]
  | .res0E => [0xCB, 0x83]
  | .res0H => [0xCB, 0x84]
  | .res0L => [0xCB, 0x85]
  | .res0IndHL => [0xCB, 0x86]
  | .res0A => [0xCB, 0x87]
  | .res1B => [0xCB, 0x88]
  | .res1C => [0xCB, 0x89]
  | .res1D => [0xCB, 0x8A]
  | .res1E => [0xCB, 0x8B]
  | .res1H => [0xCB, 0x8C]
  | .res1L => [0xCB, 0x8D]
  | .res1IndHL => [0xCB, 0x8E]
  | .res1A => [0xCB, 0x8F]
  | .res2B => [0xCB, 0x90]
  | .res2C => [0xCB, 0x91]
  | .res2D => [0xCB, 0x92]
  | .res2E => [0xCB, 0x93]
  | .res2H => [0xCB, 0x94]
  | .res2L => [0xCB, 0x95]
  | .res2IndHL => [0xCB, 0x96]
  | .res2A => [0xCB, 0x97]
  | .res3B => [0xCB, 0x98]
  | .res3C => [0xCB, 0x99]
  | .res3D => [0xCB, 0x9A]
  | .res3E => [0xCB, 0x9B]
  | .res3H => [0xCB, 0x9C]
  | .res3L => [0xCB, 0x9D]
  | .res3IndHL => [0xCB, 0x9E]
  | .res3A => [0xCB, 0x9F]
  | .res4B => [0xCB, 0xA0]
  | .res4C => [0xCB, 0xA1]
  | .res4D => [0xCB, 0xA2]
  | .res4E => [0xCB, 0xA3]
  | .res4H => [0xCB, 0xA4]
  | .res4L => [0xCB, 0xA5]
  | .res4IndHL => [0xCB, 0xA6]
  | .res4A => [0xCB, 0xA7]
  | .res5B => [0xCB, 0xA8]
  | .res5C => [0xCB, 0xA9]
  | .res5D => [0xCB, 0xAA]
  | .res5E => [0xCB, 0xAB]
  | .res5H => [0xCB, 0xAC]
  | .res5L => [0xCB, 0xAD]
  | .res5IndHL => [0xCB, 0xAE]
  | .res5A => [0xCB, 0xAF]
  | .res6B => [0xCB, 0xB0]
  | .res6C => [0xCB, 0xB1]
  | .res6D => [0xCB, 0xB2]
  | .res6E => [0xCB, 0xB3]
  | .res6H => [0xCB, 0xB4]
  | .res6L => [0xCB, 0xB5]
  | .res6IndHL => [0xCB, 0xB6]
  | .res6A => [0xCB, 0xB7]
  | .res7B => [0xCB, 0xB8]
  | .res7C => [0xCB, 0xB9]
  | .res7D => [0xCB, 0xBA]
  | .res7E => [0xCB, 0xBB]
  | .res7H => [0xCB, 0xBC]
  | .res7L => [0xCB, 0xBD]
  | .res7IndHL => [0xCB, 0xBE]
  | .res7A => [0xCB, 0xBF]
  | .set0B => [0xCB, 0xC0]
  | .set0C => [0xCB, 0xC1]
  | .set0D => [0xCB, 0xC2]
  | .set0E => [0xCB, 0xC3]
  | .set0H => [0xCB, 0xC4]
  | .set0L => [0xCB, 0xC5]
  | .set0IndHL => [0xCB, 0xC6]
  | .set0A => [0xCB, 0xC7]
  | .set1B => [0xCB, 0xC8]
  | .set1C => [0xCB, 0xC9]
  | .set1D => [0xCB, 0xCA]
  | .set1E => [0xCB, 0xCB]
  | .set1H => [0xCB, 0xCC]
  | .set1L => [0xCB, 0xCD]
  | .set1IndHL => [0xCB, 0xCE]
  | .set1A => [0xCB, 0xCF]
  | .set2B => [0xCB, 0xD0]
  | .set2C => [0xCB, 0xD1]
  | .set2D => [0xCB, 0xD2]
  | .set2E => [0xCB, 0xD3]
  | .set2H => [0xCB, 0xD4]
  | .set2L => [0xCB, 0xD5]
  | .set2IndHL => [0xCB, 0xD6]
  | .set2A => [0xCB, 0xD7]
  | .set3B => [0xCB, 0xD8]
  | .set3C => [0xCB, 0xD9]
  | .set3D => [0xCB, 0xDA]
  | .set3E => [0xCB, 0xDB]
  | .set3H => [0xCB, 0xDC]
  | .set3L => [0xCB, 0xDD]
  | .set3IndHL => [0xCB, 0xDE]
  | .set3A => [0xCB, 0xDF]
  | .set4B => [0xCB, 0xE0]
  | .set4C => [0xCB, 0xE1]
  | .set4D => [0xCB, 0xE2]
  | .set4E => [0xCB, 0xE3]
  | .set4H => [0xCB, 0xE4]
  | .set4L => [0xCB, 0xE5]
  | .set4IndHL => [0xCB, 0xE6]
  | .set4A => [0xCB, 0xE7]
  | .set5B => [0xCB, 0xE8]
  | .set5C => [0xCB, 0xE9]
  | .set5D => [0xCB, 0xEA]
  | .set5E => [0xCB, 0xEB]
  | .set5H => [0xCB, 0xEC]
  | .set5L => [0xCB, 0xED]
  | .set5IndHL => [0xCB, 0xEE]
  | .set5A => [0xCB, 0xEF]
  | .set6B => [0xCB, 0xF0]
  | .set6C => [0xCB, 0xF1]
  | .set6D => [0xCB, 0xF2]
  | .set6E => [0xCB, 0xF3]
  | .set6H => [0xCB, 0xF4]
  | .set6L => [0xCB, 0xF5]
  | .set6IndHL => [0xCB, 0xF6]
  | .set6A => [0xCB, 0xF7]
  | .set7B => [0xCB, 0xF8]
  | .set7C => [0xCB, 0xF9]
  | .set7D => [0xCB, 0xFA]
  | .set7E => [0xCB, 0xFB]
  | .set7H => [0xCB, 0xFC]
  | .set7L => [0xCB, 0xFD]
  | .set7IndHL => [0xCB, 0xFE]
  | .set7A => [0xCB, 0xFF]
  | .unmappedD3 => [0xD3]
  | .unmappedDB => [0xDB]
  | .unmappedDD => [0xDD]
  | .unmappedE3 => [0xE3]
  | .unmappedE4 => [0xE4]
  | .unmappedEB => [0xEB]
  | .unmappedEC => [0xEC]
  | .unmappedED => [0xED]
  | .unmappedF4 => [0xF4]
  | .unmappedFC => [0xFC]
  | .unmappedFD => [0xFD]

/-- The length in bytes of an instruction (rule R80, rule R96). -/
def Instr.length (i : Instr) : Nat := (encode i).length

/-! ### The table's own numbering of an instruction's bits -/

/-- The bytes, in stream order, of an instruction whose first `nbits` bits are `w` as spec/opcode_table.json numbers them,
every later byte 0. An 8-bit row is its opcode byte. A 16-bit row is an extended one and is written "in stream order"
(rule R93), so that its first byte, the prefix 0xCB, is in bits 15..8. Log entry 8. -/
def tableBytes (nbits w : Nat) : List Byte :=
  let v := w % 2 ^ nbits
  if v / 256 % 256 = 0xCB ∧ v / 65536 = 0 then [0xCB, BitVec.ofNat 8 v, 0]
  else [BitVec.ofNat 8 v, BitVec.ofNat 8 (v / 256), BitVec.ofNat 8 (v / 65536)]

/-- The instruction the decoder reads from a table row's word. -/
def decodeTableWord (nbits w : Nat) : Option Instr :=
  match decode (tableBytes nbits w) with
  | .ok (i, _) => some i
  | .error _ => none

end Sys2Proof
end

