-- ==== Sys2Proof/Machine/Fetch.lean ====
section
/-! DEFINITION. Instruction fetch and the decode check (spec/30_encoding.md rule R81 to rule R84 and rule R92). -/

namespace Sys2Proof.Machine

/-- What fetching an instruction gives: the instruction with `PC` past all its bytes, or the error that ended the fetch
with the state it leaves (rule R273: `PC` past the bytes fetched so far). -/
inductive Fetched where
  | got (i : Instr) (s : State)
  | raised (e : Fault) (s : State)
deriving DecidableEq, Repr

/-- `Fetch8()` (rule R81): the byte at `PC`, and `PC` advanced. On an error `PC` is not advanced. -/
def fetch8 (s : State) : Except Fault (Byte × State) :=
  match s.read8 s.pc with
  | .ok v => .ok (v, s.setPC (s.pc + 1))
  | .error e => .error e

/-- `Fetch8()` for an instruction's one immediate byte. -/
def fetchImm8 (f : Byte → Instr) (s : State) : Fetched :=
  match fetch8 s with
  | .error e => .raised e s
  | .ok (n, s₁) => .got (f n) s₁

/-- `Fetch16()` for an instruction's immediate word, low byte first (rule R82). -/
def fetchImm16 (f : Word → Instr) (s : State) : Fetched :=
  match fetch8 s with
  | .error e => .raised e s
  | .ok (lo, s₁) =>
    match fetch8 s₁ with
    | .error e => .raised e s₁
    | .ok (hi, s₂) => .got (f (immWord lo hi)) s₂

/-- The extended opcode byte and its decode check, at the state past the prefix; `pc0` is the prefix's address
(rule R84). -/
def fetchExtended (pc0 : Word) (s : State) : Fetched :=
  match fetch8 s with
  | .error e => .raised e s
  | .ok (ext, s₁) =>
    if s.params.leavesOutExtended ext then .raised (.decodeError .extended ext pc0) s₁
    else .got (decodeExtended ext) s₁

/-- Fetches the instruction at `PC`: its opcode, the decode check, then its immediates (rule R84, rule R275). An opcode the
build leaves out of its table is a decode error here (rule R92). The unmapped values of rule R91 are instructions to the
decoder, whose meaning raises the same error (Machine/Unmapped.lean). -/
def fetchInstr (s : State) : Fetched :=
  match fetch8 s with
  | .error e => .raised e s
  | .ok (op, s₁) =>
    if s.params.leavesOutPrimary op then .raised (.decodeError .primary op s.pc) s₁
    else
      match decodePrimary op with
      | .plain i => .got i s₁
      | .imm8 f => fetchImm8 f s₁
      | .imm16 f => fetchImm16 f s₁
      | .prefixed => fetchExtended s.pc s₁

end Sys2Proof.Machine
end

