-- ==== Sys2Proof/Machine/Execute.lean ====
section
/-! DEFINITION. The engine's instruction step and its clock input (spec/30_encoding.md rule R84;
spec/70_reset_and_hazards.md rule R303), and the display collaborator's move between two ticks
(spec/60_exceptions.md rule R289). -/

namespace Sys2Proof.Machine

/-- `ExecuteInstruction()` (rule R84) with the counter set from the cost it returns (rule R303). A halted engine returns 1
at once and fetches nothing (rule R253, rule R309). A raise records the error (rule R273). -/
def executeInstruction (s : State) : Result :=
  if s.halted then complete 1 s
  else
    match fetchInstr s with
    | .raised e s₁ => raise e s₁
    | .got i s₁ => exec i s₁

/-- `Tick()`, one machine cycle (rule R303): nothing on a faulted machine, a countdown while executing, an instruction
when idle. -/
def tick (s : State) : Result :=
  match s.fault with
  | some _ => .next s
  | none =>
    if s.counter > 0 then .next { s with counter := s.counter - 1 }
    else executeInstruction s

/-- The writes of the display collaborator into video memory, in order, as `WriteByte(offset, value)` (rule R58). -/
def applyVramWrites (ws : List VramWrite) (m : Memory) : Memory :=
  match ws with
  | [] => m
  | w :: rest => applyVramWrites rest (Memory.writeCell m w.offset.toNat w.value)

/-- The host's move between two ticks: the writes it has for this point land in video memory (rule R289, decision D24). -/
def hostMove (s : State) : State :=
  match s.hostWrites with
  | [] => s
  | ws :: rest => { s with vram := applyVramWrites ws s.vram, hostWrites := rest }

/-- Whether the host's move still counts: not on a faulted machine, where no memory byte changes again (rule R274), nor on
a halted one, whose state no longer changes whatever the host does (rule R290). Log entry 5. -/
def State.hostMayWrite (s : State) : Bool := s.fault.isNone && !s.halted

/-- One step of the machine: the host's move, then a tick (rule R289, rule R303). -/
def hostThenTick (s : State) : Result :=
  if s.hostMayWrite then tick (hostMove s) else tick s

/-- `n` ticks with the host's moves between them, stopping at anything but a next state. -/
def ticks (n : Nat) (s : State) : Result :=
  match n with
  | 0 => .next s
  | k + 1 =>
    match hostThenTick s with
    | .next s₁ => ticks k s₁
    | .fault e => .fault e
    | .refused r => .refused r

/-! ### Placing an instruction at the fetch -/

/-- A byte placed behind an address that the fetch can read: the boot image, or video memory directly or through its echo.
Elsewhere nothing is placed. This is the host's loading of the images before the machine runs (rule R286), not a store by
an instruction. -/
def placeByte (s : State) (addr : Word) (v : Byte) : State :=
  match route addr with
  | .bootImage k => { s with boot := Memory.writeCell s.boot k v }
  | .videoMemory k => { s with vram := Memory.writeCell s.vram k v }
  | .bootBeyond => s
  | .controlRegister => s
  | .unclaimed => s

/-- The bytes placed from an address on. -/
def placeBytes (s : State) (addr : Word) (bytes : List Byte) : State :=
  match bytes with
  | [] => s
  | v :: rest => placeBytes (placeByte s addr v) (addr + 1) rest

/-- Whether a byte can be placed behind an address. -/
def placeable (addr : Word) : Bool :=
  match route addr with
  | .bootImage _ => true
  | .videoMemory _ => true
  | .bootBeyond => false
  | .controlRegister => false
  | .unclaimed => false

/-- A state that fetches and runs exactly the given bytes' instruction on its next tick: idle, neither halted nor faulted,
no pending host write, the opcode in the build's tables, the bytes at `PC`, which is moved to the entry point 0x0000 only
where the bytes cannot be placed at it. -/
def readyToFetch (s : State) (bytes : List Byte) : State :=
  let here := placeable s.pc && placeable (s.pc + 1) && placeable (s.pc + 2)
  let s₁ :=
    { s with
      pc := if here then s.pc else 0
      counter := 0
      halted := false
      fault := none
      params :=
        { s.params with
          leftOutPrimary := s.params.leftOutPrimary.filter (fun op => bytes.head? != some op)
          leftOutCB := s.params.leftOutCB.filter (fun ext => bytes[1]? != some ext) }
      hostWrites := [] }
  placeBytes s₁ s₁.pc bytes

end Sys2Proof.Machine
end

