-- ==== Sys2Proof/Machine/Step.lean ====
section
/-! DEFINITION. The step of the machine: one `Tick()` of spec/70_reset_and_hazards.md rule R303, with the host's move
before it (spec/60_exceptions.md rule R289). -/

namespace Sys2Proof.Machine

/-- One machine cycle. -/
def step (s : State) : Host.Outcome State Fault Refusal := hostThenTick s

/-- The state with a table row's word placed where the next step fetches its instruction (log entry 7). -/
def State.withFetchWord (s : State) (nbits w : Nat) : State := readyToFetch s (tableBytes nbits w)

end Sys2Proof.Machine
end

