-- ==== Sys2Proof/Machine/Load.lean ====
section
/-! DEFINITION. The host's load-time checks and the construction of a machine (spec/60_exceptions.md rule R270 and rule R280
to rule R285; spec/70_reset_and_hazards.md rule R300). A step of the machine uses none of this. -/

namespace Sys2Proof.Machine

/-- The load errors of rule R270. Each is raised before a machine is constructed or a cartridge accepted. -/
inductive LoadError where
  | bootImageSize
  | cartridgeSizeMismatch
  | invalidRomSizeCode
  | invalidRamSizeCode
  | unsupportedController
deriving DecidableEq, Repr

/-- A cartridge that passed its checks: the sizes its header declares and its title (rule R281, rule R282, rule R284). No
address routes to it (rule R75). -/
structure Cartridge where
  romSize : Nat
  ramSize : Nat
  title : List Byte
deriving DecidableEq, Repr

/-- The declared ROM size in bytes of a size code (rule R281). -/
def romSizeOfCode (code : Byte) : Option Nat :=
  if code.toNat ≤ 0x08 then some (32768 * 2 ^ code.toNat)
  else if code = 0x52 then some 1179648
  else if code = 0x53 then some 1310720
  else if code = 0x54 then some 1572864
  else none

/-- The declared RAM size in bytes of a size code (rule R282). -/
def ramSizeOfCode (code : Byte) : Option Nat :=
  match code.toNat with
  | 0 => some 0
  | 1 => some 2048
  | 2 => some 8192
  | 3 => some 32768
  | 4 => some 131072
  | 5 => some 65536
  | _ => none

/-- The header byte at an offset of a cartridge image (rule R281 to rule R284). -/
def headerByte (image : List Byte) (offset : Nat) : Byte := image.getD offset 0

/-- The load checks of a cartridge image, in the order of rule R285. -/
def checkCartridge (image : List Byte) : Except LoadError Cartridge :=
  if image.length < 0x0150 then .error .cartridgeSizeMismatch
  else
    match romSizeOfCode (headerByte image 0x0148) with
    | none => .error .invalidRomSizeCode
    | some romSize =>
      if image.length ≠ romSize then .error .cartridgeSizeMismatch
      else
        match ramSizeOfCode (headerByte image 0x0149) with
        | none => .error .invalidRamSizeCode
        | some ramSize =>
          if headerByte image 0x0147 ≠ 0x00 then .error .unsupportedController
          else .ok { romSize := romSize, ramSize := ramSize, title := (image.drop 0x0134).take 16 }

/-- `Start` (rule R300): the boot image is checked (rule R280), the machine is bound to it, to the contents the host has
in video memory (`VRAM_INIT`) and to the build's parameters, and every register is reset (rule R36). -/
def State.start (bootImage vramInit : List Byte) (p : Params) : Except LoadError State :=
  if bootImage.length = bootImageSize then
    .ok
      { State.reset with
        boot := Memory.ofBytes bootImage
        vram := Memory.ofBytes (vramInit.take vramSize)
        params := p }
  else .error .bootImageSize

end Sys2Proof.Machine
end

