-- ==== Sys2Proof/Machine/Driver.lean ====
section
/-! DEFINITION. The host's side of the block (spec/60_exceptions.md section 4): the Timing Driver (rule R287), the machine
instance with its driver and its cartridge, and what the host may do to it (rule R286, rule R289). The driver's `acc` and
`spare` and the cartridge are host state, not the machine's (rule R291, rule R285), so they stand beside `State`. -/

namespace Sys2Proof.Machine

/-- The Timing Driver's state: the fractional remainder in units of 1 / 10^9 base tick, and the base ticks short of a
machine cycle (rule R287). -/
structure Driver where
  acc : Nat
  spare : Nat
deriving DecidableEq, Repr

/-- The driver at `Start` (rule R287, rule R300). -/
def Driver.start : Driver where
  acc := 0
  spare := 0

/-- The bounds rule R287 gives the driver's state. -/
def Driver.wf (d : Driver) : Bool := decide (d.acc < 10 ^ 9) && decide (d.spare < ticksPerCycle)

/-- The base ticks available to a call: the whole ticks of the elapsed time with what was spare (rule R287). -/
def Driver.available (hz : Nat) (d : Driver) (elapsedNs : Nat) : Nat :=
  (d.acc + elapsedNs * hz) / 10 ^ 9 + d.spare

/-- The machine cycles a call drives (rule R287). -/
def Driver.cycles (hz : Nat) (d : Driver) (elapsedNs : Nat) : Nat :=
  d.available hz elapsedNs / ticksPerCycle

/-- The driver's state after a call (rule R287). -/
def Driver.after (hz : Nat) (d : Driver) (elapsedNs : Nat) : Driver where
  acc := (d.acc + elapsedNs * hz) % 10 ^ 9
  spare := d.available hz elapsedNs % ticksPerCycle

/-- A machine instance with what the host keeps beside it. -/
structure System where
  state : State
  driver : Driver
  /-- The one active cartridge, if one is loaded (rule R285). -/
  cartridge : Option Cartridge
  /-- Whether the first tick has been made, by the host's own `Tick()` or by a call of `Advance` that drives one (rule R37,
  rule R289). Log entry 13. -/
  ticked : Bool
deriving DecidableEq, Repr

/-- `Start` (rule R300): the machine and its driver, with no cartridge. -/
def System.start (bootImage vramInit : List Byte) (p : Params) : Except LoadError System :=
  match State.start bootImage vramInit p with
  | .ok s => .ok { state := s, driver := Driver.start, cartridge := none, ticked := false }
  | .error e => .error e

/-- `Tick()` called by the host (rule R286, rule R289): one machine cycle of the instance, with the host's move before it.
The driver's state is not touched, and from now on the first tick has been made, whatever the state ticked. -/
def System.tick (sys : System) : Host.Outcome System Fault Refusal :=
  match hostThenTick sys.state with
  | .next s => .next { sys with state := s, ticked := true }
  | .fault e => .fault e
  | .refused r => .refused r

/-- `Advance(elapsed_ns)` (rule R287): the base ticks consumed, and the system after the machine cycles it drives. -/
def System.advance (sys : System) (elapsedNs : Nat) : Nat × Host.Outcome System Fault Refusal :=
  let hz := sys.state.params.baseClockHz
  let n := sys.driver.cycles hz elapsedNs
  (n * ticksPerCycle,
    match ticks n sys.state with
    | .next s =>
      .next { sys with state := s, driver := sys.driver.after hz elapsedNs, ticked := sys.ticked || decide (0 < n) }
    | .fault e => .fault e
    | .refused r => .refused r)

/-- Loading a cartridge (rule R285): it replaces the active one; a failed load gives no new system, so that the host keeps
the one it had. -/
def System.loadCartridge (sys : System) (image : List Byte) : Except LoadError System :=
  match checkCartridge image with
  | .ok c => .ok { sys with cartridge := some c }
  | .error e => .error e

/-- Register values the host presets (rule R37). -/
structure Preset where
  af : Word
  bc : Word
  de : Word
  hl : Word
  sp : Word
  pc : Word
deriving DecidableEq, Repr

/-- A preset, which the host may make only before the first tick (rule R37, decision D24); a write of `AF` is subject to
rule R25. -/
def System.preset (sys : System) (p : Preset) : Option System :=
  if sys.ticked then none
  else
    some { sys with state :=
      (((((sys.state.setAF p.af).setBC p.bc).setDE p.de).setHL p.hl).setSP p.sp).setPC p.pc }

/-- `ReadByte(offset)` from the collaborator's own side (rule R58, rule R289). -/
def System.readByte (sys : System) (offset : BitVec 13) : Byte := Memory.readCell sys.state.vram offset.toNat

/-- A write of the collaborator between two ticks (rule R289). -/
def System.writeByte (sys : System) (w : VramWrite) : System :=
  { sys with state := { sys.state with vram := applyVramWrites [w] sys.state.vram } }

/-- What the host sees of the block between two ticks (rule R286). -/
structure Observation where
  a : Byte
  f : Byte
  b : Byte
  c : Byte
  d : Byte
  e : Byte
  h : Byte
  l : Byte
  sp : Word
  pc : Word
  halted : Bool
  fault : Option Fault
  counter : Nat
deriving DecidableEq, Repr

/-- The host's view of a state (rule R286). -/
def State.observe (s : State) : Observation where
  a := s.a
  f := s.f
  b := s.b
  c := s.c
  d := s.d
  e := s.e
  h := s.h
  l := s.l
  sp := s.sp
  pc := s.pc
  halted := s.halted
  fault := s.fault
  counter := s.counter

end Sys2Proof.Machine
end

