-- ==== Sys2Proof/Safety.lean ====
section
/-! DEFINITION. How a run stands at a state (spec/60_exceptions.md rule R290), and the invariant that the reachable states
meet. -/

namespace Sys2Proof.Machine

/-- The outcome of a run, read from the state at which the host stops (rule R290). -/
inductive RunOutcome where
  /-- `fault ≠ none`: the run failed. -/
  | faulted (e : Fault)
  /-- `fault = none` and `halted`: the one successful end. -/
  | halted
  /-- Neither: the program had not finished. -/
  | running
deriving DecidableEq, Repr

/-- The outcome at a state (rule R290). -/
def State.outcome (s : State) : RunOutcome :=
  match s.fault with
  | some e => .faulted e
  | none => if s.halted then .halted else .running

/-- What holds of every reachable state: the low nibble of `F` is 0 (rule R25), the counter is in 0..5 (rule R31), it is 0
in a faulted and in a halted machine (rule R273, rule R309), a halted machine is not faulted (rule R253), and both backing
stores are in canonical form within their size (rule R35). -/
structure State.Sound (s : State) : Prop where
  flagsLow : s.f &&& 0x0F = 0
  counterRange : s.counter ≤ 5
  faultedIdle : s.fault.isSome = true → s.counter = 0
  haltedIdle : s.halted = true → s.counter = 0
  haltedUnfaulted : s.halted = true → s.fault = none
  bootWf : Memory.wf bootImageSize s.boot = true
  vramWf : Memory.wf vramSize s.vram = true

end Sys2Proof.Machine
end

