-- ==== Sys2Proof/WellFormed.lean ====
section
/-! DEFINITION. Which instructions a build has (spec/30_encoding.md rule R92). The operand types of `Instr` admit nothing
but the operands of the encoding, so what is left to check of an instruction is that the build's dispatch tables hold
its opcode. -/

namespace Sys2Proof

/-- The build's dispatch tables hold the instruction's opcode: its first byte is in `MAPPED_PRIMARY`, or it is extended and
its second byte is in `MAPPED_CB` (rule R84, rule R92). The unmapped rows of rule R91 are well formed in no build. -/
def WellFormed (p : Params) (i : Instr) : Bool :=
  match encode i with
  | [] => false
  | op :: rest =>
    if op = 0xCB then
      match rest with
      | ext :: _ => p.mapsExtended ext
      | [] => false
    else p.mapsPrimary op

end Sys2Proof
end

