-- ==== Sys2Proof/Certificates/Slice0/Obligations.lean ====
section
/-! DEFINITION. What the provers are asked to prove of the model, from the numbered rules of spec/. `Sys2Proof.Claims` holds
the shapes in which the statements are written: the field codes of spec/30_encoding.md, what it is for an instruction to be
fetched as its bytes, and the ways an instruction uses memory. -/

open Sys2Proof Sys2Proof.Machine

/-! ### Shapes of the statements -/

namespace Sys2Proof.Claims

/-- The `r8` code of a register (rule R86). -/
def regCode (r : Reg) : Byte :=
  match r with
  | .b => 0
  | .c => 1
  | .d => 2
  | .e => 3
  | .h => 4
  | .l => 5
  | .a => 7

/-- The `rr` code of a slot (rule R87). -/
def pairCode (p : Pair) : Byte :=
  match p with
  | .bc => 0
  | .de => 1
  | .hl => 2
  | .sp => 3

/-- The `qq` code of a slot (rule R87). -/
def stackCode (q : StackPair) : Byte :=
  match q with
  | .bc => 0
  | .de => 1
  | .hl => 2
  | .af => 3

/-- The condition code (rule R88). -/
def condCode (cc : Cond) : Byte :=
  match cc with
  | .nz => 0
  | .z => 1
  | .nc => 2
  | .c => 3

/-- The code of an accumulator operation (rule R93). -/
def aluCode (op : AluOp) : Byte :=
  match op with
  | .add => 0
  | .adc => 1
  | .sub => 2
  | .sbc => 3
  | .and => 4
  | .xor => 5
  | .or => 6
  | .cp => 7

/-- The code of a rotate or shift (rule R90). -/
def rotCode (op : RotOp) : Byte :=
  match op with
  | .rlc => 0
  | .rrc => 1
  | .rl => 2
  | .rr => 3
  | .sla => 4
  | .sra => 5
  | .swap => 6
  | .srl => 7

/-- The code of a bit number or of a vector number (rule R89, rule R90). -/
def indexCode (k : Fin 8) : Byte := BitVec.ofNat 8 k.val

/-- The instruction has these bytes, and where the engine can read only the first `j` of them it raises the access error of
the `j`-th, with `PC` at it and nothing else changed (rule R81, rule R273). -/
def FetchedAs (i : Instr) (bytes : List Byte) : Prop :=
  encode i = bytes ∧
    ∀ (s : State) (j : Nat), s.halted = false → WellFormed s.params i = true → j < bytes.length →
      (∀ k b, k < j → bytes[k]? = some b → s.read8 (s.pc + BitVec.ofNat 16 k) = .ok b) →
      (∀ b, s.read8 (s.pc + BitVec.ofNat 16 j) ≠ .ok b) →
      executeInstruction s =
        .next { s with
          pc := s.pc + BitVec.ofNat 16 j
          fault := some (.accessError (s.pc + BitVec.ofNat 16 j) .read) }

/-- An instruction that uses no memory beyond its own bytes: at every state it completes, at this cost, with this effect. -/
def Completes (i : Instr) (bytes : List Byte) (cost : Nat) (effect : State → State) : Prop :=
  FetchedAs i bytes ∧ ∀ s : State, exec i s = .next { effect s with counter := cost - 1 }

/-- An instruction that reads one byte: where the byte can be read it completes with this effect, else it raises the access
error of that address and nothing else changes. -/
def LoadsFrom (i : Instr) (bytes : List Byte) (addr : State → Word) (cost : Nat) (effect : Byte → State → State) : Prop :=
  FetchedAs i bytes ∧
    ∀ s : State,
      (∀ v, s.read8 (addr s) = .ok v → exec i s = .next { effect v s with counter := cost - 1 }) ∧
      ((∀ v, s.read8 (addr s) ≠ .ok v) → exec i s = .next { s with fault := some (.accessError (addr s) .read) })

/-- An instruction that writes one byte: where the byte can be written it completes with what comes after the store, else it
raises the access error of that address and nothing else changes. -/
def StoresTo (i : Instr) (bytes : List Byte) (addr : State → Word) (value : State → Byte) (cost : Nat)
    (after : State → State) : Prop :=
  FetchedAs i bytes ∧
    ∀ s : State,
      (∀ t, s.write8 (addr s) (value s) = .ok t → exec i s = .next { after t with counter := cost - 1 }) ∧
      ((∀ t, s.write8 (addr s) (value s) ≠ .ok t) →
        exec i s = .next { s with fault := some (.accessError (addr s) .write) })

/-- A read-modify-write of the byte at `HL` (rule R204): read, store the result, then what comes after the store. A read that
fails, or a write that fails after the read, raises its access error and nothing else changes. -/
def ModifiesAtHL (i : Instr) (bytes : List Byte) (cost : Nat) (result : State → Byte → Byte)
    (after : Byte → State → State) : Prop :=
  FetchedAs i bytes ∧
    ∀ s : State,
      (∀ v t, s.read8 s.hl = .ok v → s.write8 s.hl (result s v) = .ok t →
        exec i s = .next { after v t with counter := cost - 1 }) ∧
      (∀ v, s.read8 s.hl = .ok v → (∀ t, s.write8 s.hl (result s v) ≠ .ok t) →
        exec i s = .next { s with fault := some (.accessError s.hl .write) }) ∧
      ((∀ v, s.read8 s.hl ≠ .ok v) → exec i s = .next { s with fault := some (.accessError s.hl .read) })

/-- An accumulator operation in its three forms (rule R160): register, `(HL)` and immediate. -/
def Accumulates (op : AluOp) (effect : Byte → State → State) : Prop :=
  (∀ r, Completes (.aluReg op r) [0x80 ||| (aluCode op <<< 3) ||| regCode r] 1 (fun s => effect (s.reg r) s)) ∧
    LoadsFrom (.aluInd op) [0x86 ||| (aluCode op <<< 3)] State.hl 2 effect ∧
    ∀ n, Completes (.aluImm op n) [0xC6 ||| (aluCode op <<< 3), n] 2 (effect n)

/-- The low nibble of a byte as an integer. -/
def nibble (v : Byte) : Nat := (v &&& 0x0F).toNat

/-- An extended rotate or shift in its two forms (rule R204), given its result and its carry out, from the operand and `Cf`. -/
def Rotates (op : RotOp) (result : Bool → Byte → Byte) (carry : Bool → Byte → Bool) : Prop :=
  (∀ r, Completes (.rotReg op r) [0xCB, (rotCode op <<< 3) ||| regCode r] 2 (fun s =>
      (s.setReg r (result s.flagC (s.reg r))).setFlags
        ⟨result s.flagC (s.reg r) == 0, false, false, carry s.flagC (s.reg r)⟩)) ∧
    ModifiesAtHL (.rotInd op) [0xCB, (rotCode op <<< 3) ||| 0x06] 4 (fun s v => result s.flagC v) (fun v s =>
      s.setFlags ⟨result s.flagC v == 0, false, false, carry s.flagC v⟩)

/-- An instruction that pushes a word and then goes on (rule R145): `SP` falls by 2, the word is written there, and where a
byte cannot be written its error is raised with `SP` fallen and a first byte that was written kept. -/
def Pushes (i : Instr) (s : State) (value : Word) (cost : Nat) (after : State → State) : Prop :=
  (∀ t, (s.setSP (s.sp - 2)).write16 (s.sp - 2) value = .ok t → exec i s = .next { after t with counter := cost - 1 }) ∧
    ∀ e t, (s.setSP (s.sp - 2)).write16 (s.sp - 2) value = .error (e, t) → exec i s = .next { t with fault := some e }

/-- An instruction that pops a word and then goes on (rule R146): the word is read at `SP`, which rises by 2, and where a byte
cannot be read its error is raised and nothing else changes. -/
def Pops (i : Instr) (s : State) (cost : Nat) (after : Word → State → State) : Prop :=
  (∀ v, s.read16 s.sp = .ok v → exec i s = .next { after v (s.setSP (s.sp + 2)) with counter := cost - 1 }) ∧
    ∀ e, s.read16 s.sp = .error e → exec i s = .next { s with fault := some e }

/-- The byte registers of a slot of the `rr` column (rule R21, rule R87). -/
def InPair (rr : Pair) (r : Reg) : Prop :=
  match rr with
  | .bc => r = .b ∨ r = .c
  | .de => r = .d ∨ r = .e
  | .hl => r = .h ∨ r = .l
  | .sp => False

/-- The byte registers of a slot of the `qq` column, but for `F` (rule R21, rule R87). -/
def InStackPair (qq : StackPair) (r : Reg) : Prop :=
  match qq with
  | .bc => r = .b ∨ r = .c
  | .de => r = .d ∨ r = .e
  | .hl => r = .h ∨ r = .l
  | .af => r = .a

/-- `WritesReg s i r`: the instruction may write the register at the state. A constructor for each destination the rules
name; nothing else is a writer. -/
inductive WritesReg (s : State) : Instr → Reg → Prop
  | ldRegReg (dst src : Reg) : WritesReg s (.ldRegReg dst src) dst
  | ldRegInd (dst : Reg) : WritesReg s (.ldRegInd dst) dst
  | ldRegImm (dst : Reg) (n : Byte) : WritesReg s (.ldRegImm dst n) dst
  | ldAIndBC : WritesReg s .ldAIndBC .a
  | ldAIndDE : WritesReg s .ldAIndDE .a
  | ldAIndA16 (w : Word) : WritesReg s (.ldAIndA16 w) .a
  | ldhAIndA8 (n : Byte) : WritesReg s (.ldhAIndA8 n) .a
  | ldAIndC : WritesReg s .ldAIndC .a
  /-- `LD A,(HL+)` and `LD A,(HL-)` write `A` and `HL` (rule R122, rule R123). -/
  | ldAIndHLInc (r : Reg) : r = .a ∨ r = .h ∨ r = .l → WritesReg s .ldAIndHLInc r
  | ldAIndHLDec (r : Reg) : r = .a ∨ r = .h ∨ r = .l → WritesReg s .ldAIndHLDec r
  /-- `LD (HL+),A` and `LD (HL-),A` write `HL` (rule R120, rule R121). -/
  | ldIndHLIncA (r : Reg) : r = .h ∨ r = .l → WritesReg s .ldIndHLIncA r
  | ldIndHLDecA (r : Reg) : r = .h ∨ r = .l → WritesReg s .ldIndHLDecA r
  | ldPairImm (rr : Pair) (w : Word) (r : Reg) : InPair rr r → WritesReg s (.ldPairImm rr w) r
  | ldHLSPE8 (e : Byte) (r : Reg) : r = .h ∨ r = .l → WritesReg s (.ldHLSPE8 e) r
  | popPair (qq : StackPair) (r : Reg) : InStackPair qq r → WritesReg s (.popPair qq) r
  /-- The accumulator operations write `A`, except CP (rule R160, rule R168). -/
  | aluReg (op : AluOp) (q : Reg) : op ≠ .cp → WritesReg s (.aluReg op q) .a
  | aluInd (op : AluOp) : op ≠ .cp → WritesReg s (.aluInd op) .a
  | aluImm (op : AluOp) (n : Byte) : op ≠ .cp → WritesReg s (.aluImm op n) .a
  | incReg (dst : Reg) : WritesReg s (.incReg dst) dst
  | decReg (dst : Reg) : WritesReg s (.decReg dst) dst
  | daa : WritesReg s .daa .a
  | cpl : WritesReg s .cpl .a
  | incPair (rr : Pair) (r : Reg) : InPair rr r → WritesReg s (.incPair rr) r
  | decPair (rr : Pair) (r : Reg) : InPair rr r → WritesReg s (.decPair rr) r
  | addHLPair (rr : Pair) (r : Reg) : r = .h ∨ r = .l → WritesReg s (.addHLPair rr) r
  | rlca : WritesReg s .rlca .a
  | rrca : WritesReg s .rrca .a
  | rla : WritesReg s .rla .a
  | rra : WritesReg s .rra .a
  | rotReg (op : RotOp) (o : Reg) : WritesReg s (.rotReg op o) o
  /-- BIT writes `A` only in a build with `BIT_WRITES_A` (rule R213). -/
  | bitReg (b : Fin 8) (o : Reg) : s.params.bitWritesA = true → WritesReg s (.bitReg b o) .a
  | bitInd (b : Fin 8) : s.params.bitWritesA = true → WritesReg s (.bitInd b) .a
  | resReg (b : Fin 8) (o : Reg) : WritesReg s (.resReg b o) o
  | setReg (b : Fin 8) (o : Reg) : WritesReg s (.setReg b o) o

/-- The instructions that may write `SP` at the state (rule R29). -/
inductive WritesSP (s : State) : Instr → Prop
  | ldSPD16 (w : Word) : WritesSP s (.ldPairImm .sp w)
  | ldSPHL : WritesSP s .ldSPHL
  | addSPE8 (e : Byte) : WritesSP s (.addSPE8 e)
  | incSP : WritesSP s (.incPair .sp)
  | decSP : WritesSP s (.decPair .sp)
  | push (qq : StackPair) : WritesSP s (.pushPair qq)
  | pop (qq : StackPair) : WritesSP s (.popPair qq)
  | call (w : Word) : WritesSP s (.callA16 w)
  | callCond (cc : Cond) (w : Word) : s.cond cc = true → WritesSP s (.callCond cc w)
  | rst (k : Fin 8) : WritesSP s (.rst k)
  | ret : WritesSP s .ret
  | retCond (cc : Cond) : s.cond cc = true → WritesSP s (.retCond cc)
  | reti : WritesSP s .reti

/-- The instructions that write `F` (rule R26). -/
inductive WritesFlags : Instr → Prop
  | aluReg (op : AluOp) (r : Reg) : WritesFlags (.aluReg op r)
  | aluInd (op : AluOp) : WritesFlags (.aluInd op)
  | aluImm (op : AluOp) (n : Byte) : WritesFlags (.aluImm op n)
  | incReg (r : Reg) : WritesFlags (.incReg r)
  | decReg (r : Reg) : WritesFlags (.decReg r)
  | incIndHL : WritesFlags .incIndHL
  | decIndHL : WritesFlags .decIndHL
  | daa : WritesFlags .daa
  | cpl : WritesFlags .cpl
  | scf : WritesFlags .scf
  | ccf : WritesFlags .ccf
  | addHLPair (rr : Pair) : WritesFlags (.addHLPair rr)
  | addSPE8 (e : Byte) : WritesFlags (.addSPE8 e)
  | ldHLSPE8 (e : Byte) : WritesFlags (.ldHLSPE8 e)
  | popAF : WritesFlags (.popPair .af)
  | rlca : WritesFlags .rlca
  | rrca : WritesFlags .rrca
  | rla : WritesFlags .rla
  | rra : WritesFlags .rra
  | rotReg (op : RotOp) (r : Reg) : WritesFlags (.rotReg op r)
  | rotInd (op : RotOp) : WritesFlags (.rotInd op)
  | bitReg (b : Fin 8) (r : Reg) : WritesFlags (.bitReg b r)
  | bitInd (b : Fin 8) : WritesFlags (.bitInd b)

/-- The control transfers, each under the condition on which it transfers (rule R231 to rule R241). -/
inductive Transfers (s : State) : Instr → Prop
  | jr (e : Byte) : Transfers s (.jrE8 e)
  | jrCond (cc : Cond) (e : Byte) : s.cond cc = true → Transfers s (.jrCond cc e)
  | jp (w : Word) : Transfers s (.jpA16 w)
  | jpCond (cc : Cond) (w : Word) : s.cond cc = true → Transfers s (.jpCond cc w)
  | jpHL : Transfers s .jpHL
  | call (w : Word) : Transfers s (.callA16 w)
  | callCond (cc : Cond) (w : Word) : s.cond cc = true → Transfers s (.callCond cc w)
  | ret : Transfers s .ret
  | retCond (cc : Cond) : s.cond cc = true → Transfers s (.retCond cc)
  | reti : Transfers s .reti
  | rst (k : Fin 8) : Transfers s (.rst k)

/-- `StoresAt s i x`: the instruction may store a byte at the address `x`, computed as its rule computes it. A form that
stores nothing has no constructor (rule R65). -/
inductive StoresAt (s : State) : Instr → Word → Prop
  | ldIndReg (r : Reg) : StoresAt s (.ldIndReg r) s.hl
  | ldIndHLD8 (n : Byte) : StoresAt s (.ldIndHLD8 n) s.hl
  | ldIndHLIncA : StoresAt s .ldIndHLIncA s.hl
  | ldIndHLDecA : StoresAt s .ldIndHLDecA s.hl
  | ldIndBCA : StoresAt s .ldIndBCA s.bc
  | ldIndDEA : StoresAt s .ldIndDEA s.de
  | ldIndA16A (w : Word) : StoresAt s (.ldIndA16A w) w
  | ldhIndA8A (n : Byte) : StoresAt s (.ldhIndA8A n) (topPage n)
  | ldIndCA : StoresAt s .ldIndCA (topPage s.c)
  | ldIndA16SP (w x : Word) : x = w ∨ x = w + 1 → StoresAt s (.ldIndA16SP w) x
  | incIndHL : StoresAt s .incIndHL s.hl
  | decIndHL : StoresAt s .decIndHL s.hl
  | rotInd (op : RotOp) : StoresAt s (.rotInd op) s.hl
  | resInd (b : Fin 8) : StoresAt s (.resInd b) s.hl
  | setInd (b : Fin 8) : StoresAt s (.setInd b) s.hl
  | push (qq : StackPair) (x : Word) : x = s.sp - 2 ∨ x = s.sp - 2 + 1 → StoresAt s (.pushPair qq) x
  | call (w x : Word) : x = s.sp - 2 ∨ x = s.sp - 2 + 1 → StoresAt s (.callA16 w) x
  | callCond (cc : Cond) (w x : Word) : s.cond cc = true → x = s.sp - 2 ∨ x = s.sp - 2 + 1 → StoresAt s (.callCond cc w) x
  | rst (k : Fin 8) (x : Word) : x = s.sp - 2 ∨ x = s.sp - 2 + 1 → StoresAt s (.rst k) x

/-- Calls of `Advance` one after another: what they return in all, and the system after the last. -/
def advanceAll (sys : System) (times : List Nat) : Nat × Host.Outcome System Fault Refusal :=
  match times with
  | [] => (0, .next sys)
  | t :: rest =>
    match (sys.advance t).2 with
    | .next mid => ((sys.advance t).1 + (advanceAll mid rest).1, (advanceAll mid rest).2)
    | .fault e => ((sys.advance t).1, .fault e)
    | .refused r => ((sys.advance t).1, .refused r)

/-- Two digits as a packed BCD byte. -/
def packedBcd (x : Nat) : Byte := BitVec.ofNat 8 (x / 10 % 10 * 16 + x % 10)

end Sys2Proof.Claims

open Sys2Proof.Claims

/-! ### Encoding -/

/-- Words the spec writes out decode to the instructions it says they are (spec/30_encoding.md rule R80, rule R94;
spec/95_test_vectors.md section 1). The model's choice, log entry 10 (DEDUCED), are two things the spec does not say: that a
sequence which ends inside an instruction is rejected by the name of the missing part (the last four clauses), and that the
unmapped value 0xD3 decodes to an instruction of its own. -/
def Obligations.DecodeReadsWordsOfTheSpec : Prop :=
  decode [0x00] = .ok (.nop, []) ∧ decode [0x3E, 0x80] = .ok (.ldAD8 0x80, []) ∧
    decode [0x20, 0xFB] = .ok (.jrNZE8 0xFB, []) ∧ decode [0x10, 0x00] = .ok (.stop 0x00, []) ∧
    decode [0xCD, 0x34, 0x12] = .ok (.callA16 0x1234, []) ∧ decode [0xCB, 0x7C] = .ok (.bit7H, []) ∧
    decode [0xAF] = .ok (.xorAA, []) ∧ decode [0xD3] = .ok (.unmappedD3, []) ∧
    decode [0xCB, 0xD3] = .ok (.set2E, []) ∧ decode [0x76] = .ok (.halt, []) ∧
    decode [0xCB] = .error .noExtendedOpcode ∧ decode [0xCD, 0x34] = .error .noImmediateWord ∧
    decode [0x3E] = .error .noImmediateByte ∧ decode [] = .error .noOpcode

/-- Decoding an instruction's bytes gives the instruction back, with every operand, and leaves the bytes after it. -/
def Obligations.DecodeOfEncodeIsTheInstruction : Prop :=
  ∀ (i : Instr) (rest : List Byte), decode (encode i ++ rest) = .ok (i, rest)

/-- What the decoder reads as an instruction is that instruction's encoding: no other bytes decode to it
(spec/30_encoding.md rule R98). -/
def Obligations.EncodeOfDecodeIsTheBytes : Prop :=
  ∀ (bytes rest : List Byte) (i : Instr), decode bytes = .ok (i, rest) → bytes = encode i ++ rest

/-- Rule R96: a decoder tells an instruction's length from its first byte. -/
def Obligations.LengthIsToldByTheFirstByte : Prop :=
  ∀ (op : Byte) (tail : List Byte) (i : Instr) (rest : List Byte), decode (op :: tail) = .ok (i, rest) →
    i.length =
      if op = 0xCB ∨ op = 0x10 ∨
          op ∈ ([0x06, 0x0E, 0x16, 0x1E, 0x26, 0x2E, 0x36, 0x3E, 0x18, 0x20, 0x28, 0x30, 0x38, 0xC6, 0xCE, 0xD6, 0xDE, 0xE6,
            0xEE, 0xF6, 0xFE, 0xE0, 0xF0, 0xE8, 0xF8] : List Byte) then 2
      else if op ∈ ([0x01, 0x11, 0x21, 0x31, 0x08, 0xC2, 0xC3, 0xC4, 0xCA, 0xCC, 0xCD, 0xD2, 0xD4, 0xDA, 0xDC, 0xEA, 0xFA] :
          List Byte) then 3
      else 1

/-! ### Registers and flags -/

/-- Rule R22: the word view and the byte view of a slot are two views of one value, and a write through either is visible
through the other; a write to `AF` or `F` is also subject to rule R25. -/
def Obligations.WordAndByteViewsAreOneValue : Prop :=
  ∀ (s : State) (v : Word) (b : Byte),
    (s.bc = s.b ++ s.c ∧ s.de = s.d ++ s.e ∧ s.hl = s.h ++ s.l ∧ s.af = s.a ++ s.f) ∧
    ((s.setBC v).b = v.extractLsb' 8 8 ∧ (s.setBC v).c = v.extractLsb' 0 8 ∧ (s.setB b).bc = b ++ s.c ∧ (s.setC b).bc = s.b ++ b) ∧
    ((s.setDE v).d = v.extractLsb' 8 8 ∧ (s.setDE v).e = v.extractLsb' 0 8 ∧ (s.setD b).de = b ++ s.e ∧ (s.setE b).de = s.d ++ b) ∧
    ((s.setHL v).h = v.extractLsb' 8 8 ∧ (s.setHL v).l = v.extractLsb' 0 8 ∧ (s.setH b).hl = b ++ s.l ∧ (s.setL b).hl = s.h ++ b) ∧
    ((s.setAF v).a = v.extractLsb' 8 8 ∧ (s.setAF v).f = v.extractLsb' 0 8 &&& 0xF0 ∧ (s.setA b).af = b ++ s.f ∧
      (s.setF b).af = s.a ++ (b &&& 0xF0))

/-- Rule R24 and rule R230: `Z` is bit 7 of `F`, `N` bit 6, `Hf` bit 5 and `Cf` bit 4; writing the flags writes those bits and
zeros below; and the conditions NZ, Z, NC and C read `Z` and `Cf`. -/
def Obligations.FlagsAndConditionsAreBitsOfF : Prop :=
  ∀ (s : State) (fl : Flags),
    s.flagZ = s.f.getLsbD 7 ∧ s.flagN = s.f.getLsbD 6 ∧ s.flagH = s.f.getLsbD 5 ∧ s.flagC = s.f.getLsbD 4 ∧
    ((s.setFlags fl).f.getLsbD 7 = fl.z ∧ (s.setFlags fl).f.getLsbD 6 = fl.n ∧ (s.setFlags fl).f.getLsbD 5 = fl.h ∧
      (s.setFlags fl).f.getLsbD 4 = fl.c ∧ (s.setFlags fl).f &&& 0x0F = 0 ∧ (s.setFlags fl).a = s.a) ∧
    (s.cond .nz = true ↔ s.flagZ = false) ∧ (s.cond .z = true ↔ s.flagZ = true) ∧
    (s.cond .nc = true ↔ s.flagC = false) ∧ (s.cond .c = true ↔ s.flagC = true)

/-- Rule R25: every write to `F` stores `v & 0xF0`, `F`'s low nibble is 0 after reset, and every step keeps it 0. -/
def Obligations.FlagByteLowNibbleStaysZero : Prop :=
  (∀ (s : State) (v : Byte), (s.setF v).f = v &&& 0xF0) ∧
    (∀ (s : State) (v : Word), (s.setAF v).f = v.extractLsb' 0 8 &&& 0xF0) ∧
    State.reset.f &&& 0x0F = 0 ∧
    ∀ s t : State, step s = .next t → s.f &&& 0x0F = 0 → t.f &&& 0x0F = 0

/-! ### Memory -/

/-- Rule R51, rule R52 and rule R53: what every address answers to a read and to a write. -/
def Obligations.AccessesFollowThePartitionTable : Prop :=
  ∀ (s : State) (a : Word) (v : Byte),
    (a.toNat ≤ 0x00FF →
      s.read8 a = .ok (Memory.readCell s.boot a.toNat) ∧ s.write8 a v = .error (.accessError a .write)) ∧
    (0x0100 ≤ a.toNat → a.toNat ≤ 0x7FFF →
      s.read8 a = .error (.accessError a .read) ∧ s.write8 a v = .error (.accessError a .write)) ∧
    (0x8000 ≤ a.toNat → a.toNat ≤ 0x9FFF →
      s.read8 a = .ok (Memory.readCell s.vram (a.toNat - 0x8000)) ∧
        s.write8 a v = .ok { s with vram := Memory.writeCell s.vram (a.toNat - 0x8000) v }) ∧
    (0xA000 ≤ a.toNat → a.toNat ≤ 0xDFFF →
      s.read8 a = .error (.accessError a .read) ∧ s.write8 a v = .error (.accessError a .write)) ∧
    (0xE000 ≤ a.toNat → a.toNat ≤ 0xFDFF →
      s.read8 a = .ok (Memory.readCell s.vram (a.toNat - 0xE000)) ∧
        s.write8 a v = .ok { s with vram := Memory.writeCell s.vram (a.toNat - 0xE000) v }) ∧
    (0xFE00 ≤ a.toNat → a.toNat ≠ 0xFF26 →
      s.read8 a = .error (.accessError a .read) ∧ s.write8 a v = .error (.accessError a .write)) ∧
    (a.toNat = 0xFF26 → s.read8 a = .ok 0x00 ∧ s.write8 a v = .ok s)

/-- Rule R58: a byte of video memory written at 0x8000 + k, or for k up to 0x1DFF at its echo 0xE000 + k, reads back at both
addresses, and every other address reads as before. -/
def Obligations.VideoMemoryAndItsEchoAreOneStore : Prop :=
  ∀ (s : State) (k : Nat) (v : Byte), k < 0x2000 → Memory.wf vramSize s.vram = true →
    ∃ t, s.write8 (BitVec.ofNat 16 (0x8000 + k)) v = .ok t ∧ t.read8 (BitVec.ofNat 16 (0x8000 + k)) = .ok v ∧
      (k < 0x1E00 →
        s.write8 (BitVec.ofNat 16 (0xE000 + k)) v = .ok t ∧ t.read8 (BitVec.ofNat 16 (0xE000 + k)) = .ok v ∧
          s.read8 (BitVec.ofNat 16 (0xE000 + k)) = s.read8 (BitVec.ofNat 16 (0x8000 + k))) ∧
      ∀ b : Word, b.toNat ≠ 0x8000 + k → ¬(k < 0x1E00 ∧ b.toNat = 0xE000 + k) → t.read8 b = s.read8 b

/-- Rule R61: the 16-bit read is two 8-bit reads, the low byte first, and the second is not made after an error of the
first. -/
def Obligations.WordReadIsTwoByteReads : Prop :=
  ∀ (s : State) (a : Word),
    (∀ lo hi, s.read8 a = .ok lo → s.read8 (a + 1) = .ok hi → s.read16 a = .ok (hi ++ lo)) ∧
    (∀ e, s.read8 a = .error e → s.read16 a = .error e) ∧
    (∀ lo e, s.read8 a = .ok lo → s.read8 (a + 1) = .error e → s.read16 a = .error e)

/-- Rule R62: the 16-bit write is two 8-bit writes, the low byte first; nothing is written after an error of the first, and
the first stays written after an error of the second. -/
def Obligations.WordWriteIsTwoByteWrites : Prop :=
  ∀ (s : State) (a v : Word),
    (∀ m t, s.write8 a (v.extractLsb' 0 8) = .ok m → m.write8 (a + 1) (v.extractLsb' 8 8) = .ok t → s.write16 a v = .ok t) ∧
    (∀ e, s.write8 a (v.extractLsb' 0 8) = .error e → s.write16 a v = .error (e, s)) ∧
    (∀ m e, s.write8 a (v.extractLsb' 0 8) = .ok m → m.write8 (a + 1) (v.extractLsb' 8 8) = .error e →
      s.write16 a v = .error (e, m))

/-! ### Construction and reset -/

/-- Rule R36, rule R280 and rule R300: a boot image of exactly 256 bytes starts a machine whose registers are 0, which is idle
and neither halted nor faulted, whose boot image and video memory are what the host supplied, and whose driver is at 0; any
other size is `LoadError{BootImageSize}`. The state after reset has the same registers and engine state. -/
def Obligations.StartGivesTheResetMachine : Prop :=
  (∀ (bootImage vramInit : List Byte) (p : Params), bootImage.length = 256 → vramInit.length = 8192 →
    ∃ sys, System.start bootImage vramInit p = .ok sys ∧
      sys.state.af = 0 ∧ sys.state.bc = 0 ∧ sys.state.de = 0 ∧ sys.state.hl = 0 ∧ sys.state.sp = 0 ∧ sys.state.pc = 0 ∧
      sys.state.counter = 0 ∧ sys.state.halted = false ∧ sys.state.fault = none ∧ sys.state.params = p ∧
      (∀ k b, bootImage[k]? = some b → sys.state.read8 (BitVec.ofNat 16 k) = .ok b) ∧
      (∀ k b, vramInit[k]? = some b → sys.state.read8 (BitVec.ofNat 16 (0x8000 + k)) = .ok b) ∧
      sys.driver.acc = 0 ∧ sys.driver.spare = 0) ∧
    (∀ (bootImage vramInit : List Byte) (p : Params), bootImage.length ≠ 256 →
      System.start bootImage vramInit p = .error .bootImageSize) ∧
    (State.reset.af = 0 ∧ State.reset.bc = 0 ∧ State.reset.de = 0 ∧ State.reset.hl = 0 ∧ State.reset.sp = 0 ∧
      State.reset.pc = 0 ∧ State.reset.counter = 0 ∧ State.reset.halted = false ∧ State.reset.fault = none)

/-- The state after reset meets the invariant of the reachable states. -/
def Obligations.ResetMeetsTheInvariant : Prop := State.Sound State.reset

/-- Every step keeps the invariant: `F`'s low nibble 0 (rule R25), the counter in 0..5 (rule R31), a faulted machine idle (rule
R273), a halted one idle and unfaulted (rule R253, rule R309), the backing stores in canonical form within their size. -/
def Obligations.StepKeepsTheInvariant : Prop :=
  ∀ s t : State, State.Sound s → step s = .next t → State.Sound t

/-! ### The engine -/

/-- No state leaves the machine without a next one. That a fatal error is a next state which records it, and that the outcomes
`fault` and `refused` are answered by no step, is the model's choice, log entry 3 (DEDUCED), read from the effect that rule
R273 gives a raise and from the tick of rule R303. -/
def Obligations.EveryStateHasANextState : Prop := ∀ s : State, ∃ t, step s = .next t

/-- Rule R274: once a fault is recorded nothing changes again, whatever number of ticks follows, and the run has failed. -/
def Obligations.FaultedMachineNeverChanges : Prop :=
  ∀ (s : State) (e : Fault), s.fault = some e → step s = .next s ∧ (∀ n, ticks n s = .next s) ∧ s.outcome = .faulted e

/-- A halted machine that is idle never changes again, whatever number of ticks follows (rule R253, rule R290, rule R309). -/
def Obligations.HaltedMachineNeverChanges : Prop :=
  ∀ s : State, s.halted = true → s.fault = none → s.counter = 0 → step s = .next s ∧ ∀ n, ticks n s = .next s

/-- A tick does nothing on a faulted machine, counts down while executing, and when idle is one `ExecuteInstruction()`, which on
a halted engine returns cost 1 and changes nothing else (rule R84, rule R303). -/
def Obligations.TickHasItsThreeCases : Prop :=
  ∀ s : State,
    (∀ e, s.fault = some e → tick s = .next s) ∧
    (s.fault = none → 0 < s.counter → tick s = .next { s with counter := s.counter - 1 }) ∧
    (s.fault = none → s.counter = 0 → tick s = executeInstruction s) ∧
    (s.halted = true → executeInstruction s = .next { s with counter := 0 })

/-- The display collaborator's writes land in video memory between two ticks, in order, before the tick (rule R289, decision
D24). The schedule that holds them is the model's own (log entry 5). -/
def Obligations.HostWritesLandBetweenTicks : Prop :=
  ∀ s : State, s.fault = none → s.halted = false →
    (s.hostWrites = [] → step s = tick s) ∧
    (∀ rest, s.hostWrites = [] :: rest → step s = tick { s with hostWrites := rest }) ∧
    (∀ w ws rest, s.hostWrites = (w :: ws) :: rest →
      step s = step { s with vram := Memory.writeCell s.vram w.offset.toNat w.value, hostWrites := ws :: rest })

/-- Where the machine is running and idle and the bytes at `PC`, read after the host's move, decode to an instruction that the
build has, a step is the instruction's meaning at the state with `PC` past those bytes (rule R84). -/
def Obligations.StepRunsTheDecodedInstruction : Prop :=
  ∀ (s m : State) (bytes : List Byte) (i : Instr), m = hostMove s → s.fault = none → s.halted = false → s.counter = 0 →
    decode bytes = .ok (i, []) → WellFormed s.params i = true →
    (∀ k b, bytes[k]? = some b → m.read8 (m.pc + BitVec.ofNat 16 k) = .ok b) →
    step s = exec i (m.setPC (m.pc + BitVec.ofNat 16 bytes.length))

/-- Rule R271: a decode error is raised when `op` is not in `MAPPED_PRIMARY`, or `op` is 0xCB and `ext` is not in `MAPPED_CB`,
with `PC` past the opcode bytes and the address of the first of them recorded; under the default parameters the unmapped
values are the eleven of rule R91 and the extended table is full. -/
def Obligations.UnmappedOpcodesRaiseDecodeErrors : Prop :=
  (∀ (s : State) (op : Byte), s.halted = false → s.read8 s.pc = .ok op → op ≠ 0xCB → s.params.mapsPrimary op = false →
    executeInstruction s = .next { s with pc := s.pc + 1, fault := some (.decodeError .primary op s.pc) }) ∧
    (∀ (s : State) (ext : Byte), s.halted = false → s.read8 s.pc = .ok 0xCB → s.read8 (s.pc + 1) = .ok ext →
      s.params.mapsExtended ext = false →
      executeInstruction s = .next { s with pc := s.pc + 2, fault := some (.decodeError .extended ext s.pc) }) ∧
    (∀ op : Byte, op ≠ 0xCB →
      (Params.default.mapsPrimary op = false ↔
        op ∈ ([0xD3, 0xDB, 0xDD, 0xE3, 0xE4, 0xEB, 0xEC, 0xED, 0xF4, 0xFC, 0xFD] : List Byte))) ∧
    ∀ ext : Byte, Params.default.mapsExtended ext = true

/-- Where the engine can read only the first bytes of an instruction, it raises the access error of the first byte it cannot
read, with `PC` at that byte (rule R81, rule R273, rule R275). -/
def Obligations.FetchErrorLeavesPcAtTheUnreadByte : Prop := ∀ i : Instr, FetchedAs i (encode i)

/-- A byte written to video memory is what the next fetch of it reads, at its address and at its echo (rule R71). -/
def Obligations.FetchSeesTheLastWrite : Prop :=
  ∀ (s t : State) (k : Nat) (v : Byte), k < 0x2000 → Memory.wf vramSize s.vram = true →
    s.write8 (BitVec.ofNat 16 (0x8000 + k)) v = .ok t →
    fetch8 (t.setPC (BitVec.ofNat 16 (0x8000 + k))) = .ok (v, t.setPC (BitVec.ofNat 16 (0x8000 + k + 1))) ∧
      (k < 0x1E00 →
        fetch8 (t.setPC (BitVec.ofNat 16 (0xE000 + k))) = .ok (v, t.setPC (BitVec.ofNat 16 (0xE000 + k + 1))))

/-! ### Frames over all instructions -/

/-- No instruction changes the boot image, the parameters or the host's schedule, and no step the boot image or the
parameters (rule R35, rule R75). -/
def Obligations.ConstructionDataNeverChanges : Prop :=
  (∀ (i : Instr) (s t : State), exec i s = .next t → t.boot = s.boot ∧ t.params = s.params ∧ t.hostWrites = s.hostWrites) ∧
    ∀ s t : State, step s = .next t → t.boot = s.boot ∧ t.params = s.params

/-- After any instruction, every address reads as before unless the router sends it to the very byte that a stored-to address
names (rule R65, rule R110). -/
def Obligations.MemoryChangesOnlyAtStoredBytes : Prop :=
  ∀ (i : Instr) (s t : State) (a : Word), exec i s = .next t → (∀ x, StoresAt s i x → route a ≠ route x) →
    t.read8 a = s.read8 a

/-- After any instruction, every 8-bit register but the ones its rule names as written is unchanged. -/
def Obligations.RegistersChangeOnlyWhereNamed : Prop :=
  ∀ (i : Instr) (s t : State) (r : Reg), exec i s = .next t → ¬WritesReg s i r → t.reg r = s.reg r

/-- Rule R29: `SP` changes only in the instructions it names, which decrement it by 2 before writing, increment it by 2 after
reading, or write it. -/
def Obligations.StackPointerChangesOnlyWhereNamed : Prop :=
  ∀ (i : Instr) (s t : State), exec i s = .next t → ¬WritesSP s i → t.sp = s.sp

/-- No instruction but the writers of rule R26 changes `F`: no load, store, 16-bit INC or DEC, jump, call, return, RES, SET or
system instruction, but POP AF and LD HL,SP+e8. -/
def Obligations.FlagByteChangesOnlyWhereNamed : Prop :=
  ∀ (i : Instr) (s t : State), exec i s = .next t → ¬WritesFlags i → t.f = s.f

/-- No instruction but a control transfer that transfers moves `PC` from the address of the next instruction (rule R27). -/
def Obligations.ProgramCounterChangesOnlyInTransfers : Prop :=
  ∀ (i : Instr) (s t : State), exec i s = .next t → ¬Transfers s i → t.pc = s.pc

/-- `halted` is set by HALT and STOP and by nothing else, nothing clears it, and a recorded fault is never cleared by a step
(rule R32, rule R33). -/
def Obligations.HaltedAndFaultAreSticky : Prop :=
  (∀ (i : Instr) (s t : State), exec i s = .next t →
    (t.halted = true ↔ s.halted = true ∨ i = .halt ∨ ∃ x, i = .stop x)) ∧
    (∀ s t : State, step s = .next t → s.halted = true → t.halted = true) ∧
    ∀ (s t : State) (e : Fault), step s = .next t → s.fault = some e → t.fault = some e

/-! ### Loads and stores -/

/-- Rule R111, rule R114, rule R141 and rule R143: the loads of a register or a slot from another or from an immediate. -/
def Obligations.RegisterAndImmediateLoads : Prop :=
  (∀ dst src, Completes (.ldRegReg dst src) [0x40 ||| (regCode dst <<< 3) ||| regCode src] 1 (fun s => s.setReg dst (s.reg src))) ∧
    (∀ dst n, Completes (.ldRegImm dst n) [0x06 ||| (regCode dst <<< 3), n] 2 (fun s => s.setReg dst n)) ∧
    (∀ rr (lo hi : Byte), Completes (.ldPairImm rr (hi ++ lo)) [0x01 ||| (pairCode rr <<< 4), lo, hi] 3
      (fun s => s.setPair rr (hi ++ lo))) ∧
    Completes .ldSPHL [0xF9] 2 (fun s => { s with sp := s.hl })

/-- Rule R112, rule R116, rule R117, rule R122 to rule R124, rule R126 and rule R128: the loads of a register from memory. -/
def Obligations.LoadsFromMemory : Prop :=
  (∀ dst, LoadsFrom (.ldRegInd dst) [0x46 ||| (regCode dst <<< 3)] State.hl 2 (fun v s => s.setReg dst v)) ∧
    LoadsFrom .ldAIndBC [0x0A] State.bc 2 (fun v s => s.setA v) ∧
    LoadsFrom .ldAIndDE [0x1A] State.de 2 (fun v s => s.setA v) ∧
    LoadsFrom .ldAIndHLInc [0x2A] State.hl 2 (fun v s => { s.setA v with hl := s.hl + 1 }) ∧
    LoadsFrom .ldAIndHLDec [0x3A] State.hl 2 (fun v s => { s.setA v with hl := s.hl - 1 }) ∧
    (∀ lo hi : Byte, LoadsFrom (.ldAIndA16 (hi ++ lo)) [0xFA, lo, hi] (fun _ => hi ++ lo) 4 (fun v s => s.setA v)) ∧
    (∀ n : Byte, LoadsFrom (.ldhAIndA8 n) [0xF0, n] (fun _ => 0xFF00 + n.setWidth 16) 3 (fun v s => s.setA v)) ∧
    LoadsFrom .ldAIndC [0xF2] (fun s => 0xFF00 + s.c.setWidth 16) 2 (fun v s => s.setA v)

/-- Rule R113, rule R115, rule R118 to rule R121, rule R125, rule R127 and rule R129: the stores of a byte to memory. -/
def Obligations.StoresToMemory : Prop :=
  (∀ src, StoresTo (.ldIndReg src) [0x70 ||| regCode src] State.hl (fun s => s.reg src) 2 id) ∧
    (∀ n, StoresTo (.ldIndHLD8 n) [0x36, n] State.hl (fun _ => n) 3 id) ∧
    StoresTo .ldIndBCA [0x02] State.bc State.a 2 id ∧
    StoresTo .ldIndDEA [0x12] State.de State.a 2 id ∧
    StoresTo .ldIndHLIncA [0x22] State.hl State.a 2 (fun t => { t with hl := t.hl + 1 }) ∧
    StoresTo .ldIndHLDecA [0x32] State.hl State.a 2 (fun t => { t with hl := t.hl - 1 }) ∧
    (∀ lo hi : Byte, StoresTo (.ldIndA16A (hi ++ lo)) [0xEA, lo, hi] (fun _ => hi ++ lo) State.a 4 id) ∧
    (∀ n : Byte, StoresTo (.ldhIndA8A n) [0xE0, n] (fun _ => 0xFF00 + n.setWidth 16) State.a 3 id) ∧
    StoresTo .ldIndCA [0xE2] (fun s => 0xFF00 + s.c.setWidth 16) State.a 2 id

/-- Rule R142: `SP` is stored low byte first; where a byte cannot be written its access error is raised, and a first byte that
was written stays. -/
def Obligations.StoreOfTheStackPointer : Prop :=
  ∀ lo hi : Byte, FetchedAs (.ldIndA16SP (hi ++ lo)) [0x08, lo, hi] ∧
    ∀ s : State,
      (∀ m t, s.write8 (hi ++ lo) (s.sp.extractLsb' 0 8) = .ok m →
        m.write8 ((hi ++ lo : Word) + 1) (s.sp.extractLsb' 8 8) = .ok t →
        exec (.ldIndA16SP (hi ++ lo)) s = .next { t with counter := 4 }) ∧
      ((∀ m, s.write8 (hi ++ lo) (s.sp.extractLsb' 0 8) ≠ .ok m) →
        exec (.ldIndA16SP (hi ++ lo)) s = .next { s with fault := some (.accessError (hi ++ lo) .write) }) ∧
      (∀ m, s.write8 (hi ++ lo) (s.sp.extractLsb' 0 8) = .ok m →
        (∀ t, m.write8 ((hi ++ lo : Word) + 1) (s.sp.extractLsb' 8 8) ≠ .ok t) →
        exec (.ldIndA16SP (hi ++ lo)) s = .next { m with fault := some (.accessError ((hi ++ lo : Word) + 1) .write) })

/-- Rule R144 and rule R193: `SP + e8` into `HL` or `SP`, with Z and N cleared and the carries out of bits 3 and 7 of the
unsigned addition of `SP`'s low byte and `e8`. -/
def Obligations.StackPointerPlusDisplacement : Prop :=
  ∀ n : Byte,
    Completes (.ldHLSPE8 n) [0xF8, n] 3 (fun s =>
      { s.setFlags ⟨false, false, decide ((s.sp &&& 0x0F).toNat + nibble n > 0x0F), decide ((s.sp &&& 0xFF).toNat + n.toNat > 0xFF)⟩ with
        hl := BitVec.ofInt 16 (s.sp.toNat + n.toInt) }) ∧
    Completes (.addSPE8 n) [0xE8, n] 4 (fun s =>
      { s.setFlags ⟨false, false, decide ((s.sp &&& 0x0F).toNat + nibble n > 0x0F), decide ((s.sp &&& 0xFF).toNat + n.toNat > 0xFF)⟩ with
        sp := BitVec.ofInt 16 (s.sp.toNat + n.toInt) })

/-- Rule R145, rule R146 and rule R147: PUSH and POP of every slot, with their errors; POP AF masks the low nibble of the byte
it writes to `F`. -/
def Obligations.PushAndPop : Prop :=
  (∀ qq, FetchedAs (.pushPair qq) [0xC5 ||| (stackCode qq <<< 4)] ∧ ∀ s : State, Pushes (.pushPair qq) s (s.stackPair qq) 4 id) ∧
    (∀ qq, FetchedAs (.popPair qq) [0xC1 ||| (stackCode qq <<< 4)]) ∧
    ∀ s : State,
      Pops (.popPair .bc) s 3 (fun v t => { t with bc := v }) ∧ Pops (.popPair .de) s 3 (fun v t => { t with de := v }) ∧
      Pops (.popPair .hl) s 3 (fun v t => { t with hl := v }) ∧
      Pops (.popPair .af) s 3 (fun v t => (t.setA (v.extractLsb' 8 8)).setF (v.extractLsb' 0 8 &&& 0xF0))

/-- With the stack in video memory a push completes, leaves the word there low byte first, and a pop into any slot gives it
back, masked where the slot is `AF`, with `SP` as it was (rule R29, rule R63, rule R145 to rule R147). -/
def Obligations.PopGivesBackWhatWasPushed : Prop :=
  ∀ (s : State) (src dst : StackPair), 0x8002 ≤ s.sp.toNat → s.sp.toNat ≤ 0xA000 → Memory.wf vramSize s.vram = true →
    ∃ t u, exec (.pushPair src) s = .next t ∧ t.sp = s.sp - 2 ∧ t.read8 (s.sp - 2) = .ok ((s.stackPair src).extractLsb' 0 8) ∧
      t.read8 (s.sp - 1) = .ok ((s.stackPair src).extractLsb' 8 8) ∧ exec (.popPair dst) t = .next u ∧ u.sp = s.sp ∧
      u.stackPair dst = if dst = .af then s.stackPair src &&& 0xFFF0 else s.stackPair src

/-! ### 8-bit arithmetic and logic -/

/-- Rule R161 and rule R162 in the three forms of rule R160: ADD and ADC. -/
def Obligations.AddAndAddWithCarry : Prop :=
  Accumulates .add (fun v s =>
      (s.setA (BitVec.ofNat 8 (s.a.toNat + v.toNat))).setFlags
        ⟨BitVec.ofNat 8 (s.a.toNat + v.toNat) == 0, false, decide (nibble s.a + nibble v > 0x0F),
          decide (s.a.toNat + v.toNat > 0xFF)⟩) ∧
    Accumulates .adc (fun v s =>
      (s.setA (BitVec.ofNat 8 (s.a.toNat + v.toNat + s.flagC.toNat))).setFlags
        ⟨BitVec.ofNat 8 (s.a.toNat + v.toNat + s.flagC.toNat) == 0, false,
          decide (nibble s.a + nibble v + s.flagC.toNat > 0x0F), decide (s.a.toNat + v.toNat + s.flagC.toNat > 0xFF)⟩)

/-- Rule R163, rule R164 and rule R168 in the three forms of rule R160: SUB, SBC, and CP, which leaves `A` as it is. -/
def Obligations.SubtractAndCompare : Prop :=
  Accumulates .sub (fun v s =>
      (s.setA (s.a - v)).setFlags ⟨s.a - v == 0, true, decide (nibble s.a < nibble v), decide (s.a.toNat < v.toNat)⟩) ∧
    Accumulates .sbc (fun v s =>
      (s.setA (s.a - v - BitVec.ofNat 8 s.flagC.toNat)).setFlags
        ⟨s.a - v - BitVec.ofNat 8 s.flagC.toNat == 0, true, decide (nibble s.a < nibble v + s.flagC.toNat),
          decide (s.a.toNat < v.toNat + s.flagC.toNat)⟩) ∧
    Accumulates .cp (fun v s =>
      s.setFlags ⟨s.a - v == 0, true, decide (nibble s.a < nibble v), decide (s.a.toNat < v.toNat)⟩)

/-- Rule R165, rule R166 and rule R167 in the three forms of rule R160: AND, XOR and OR. -/
def Obligations.BitwiseAccumulatorOperations : Prop :=
  Accumulates .and (fun v s => (s.setA (s.a &&& v)).setFlags ⟨s.a &&& v == 0, false, true, false⟩) ∧
    Accumulates .xor (fun v s => (s.setA (s.a ^^^ v)).setFlags ⟨s.a ^^^ v == 0, false, false, false⟩) ∧
    Accumulates .or (fun v s => (s.setA (s.a ||| v)).setFlags ⟨s.a ||| v == 0, false, false, false⟩)

/-- Rule R169 to rule R172: INC and DEC of a register and of the byte at `HL`; Z is of the result and `Cf` is kept. -/
def Obligations.IncrementAndDecrement : Prop :=
  (∀ r, Completes (.incReg r) [0x04 ||| (regCode r <<< 3)] 1 (fun s =>
      (s.setReg r (s.reg r + 1)).setFlags ⟨s.reg r + 1 == 0, false, decide (nibble (s.reg r) = 0x0F), s.flagC⟩)) ∧
    (∀ r, Completes (.decReg r) [0x05 ||| (regCode r <<< 3)] 1 (fun s =>
      (s.setReg r (s.reg r - 1)).setFlags ⟨s.reg r - 1 == 0, true, decide (nibble (s.reg r) = 0), s.flagC⟩)) ∧
    ModifiesAtHL .incIndHL [0x34] 3 (fun _ v => v + 1) (fun v s =>
      s.setFlags ⟨v + 1 == 0, false, decide (nibble v = 0x0F), s.flagC⟩) ∧
    ModifiesAtHL .decIndHL [0x35] 3 (fun _ v => v - 1) (fun v s =>
      s.setFlags ⟨v - 1 == 0, true, decide (nibble v = 0), s.flagC⟩)

/-- Rule R173 to rule R176: DAA, CPL, SCF and CCF. -/
def Obligations.AdjustAndFlagOperations : Prop :=
  Completes .daa [0x27] 1 (fun s =>
      let low : Byte := if s.flagH = true ∨ (s.flagN = false ∧ nibble s.a > 9) then 0x06 else 0
      let high : Byte := if s.flagC = true ∨ (s.flagN = false ∧ s.a.toNat > 0x99) then 0x60 else 0
      let r : Byte := if s.flagN then s.a - high - low else s.a + high + low
      (s.setA r).setFlags ⟨r == 0, s.flagN, false, s.flagC || (!s.flagN && decide (s.a.toNat > 0x99))⟩) ∧
    Completes .cpl [0x2F] 1 (fun s => (s.setA (~~~ s.a)).setFlags ⟨s.flagZ, true, true, s.flagC⟩) ∧
    Completes .scf [0x37] 1 (fun s => s.setFlags ⟨s.flagZ, false, false, true⟩) ∧
    Completes .ccf [0x3F] 1 (fun s => s.setFlags ⟨s.flagZ, false, false, !s.flagC⟩)

/-- What DAA is for (rule R173 with rule R161 and rule R163): after the addition or subtraction of two packed BCD bytes it
leaves the packed BCD of the sum or difference modulo 100, and `Cf` tells whether it left 0..99. -/
def Obligations.DecimalAdjustGivesDecimalResults : Prop :=
  ∀ (s : State) (x y : Nat), x < 100 → y < 100 → s.a = packedBcd x →
    (∃ t u, exec (.aluImm .add (packedBcd y)) s = .next t ∧ exec .daa t = .next u ∧ u.a = packedBcd ((x + y) % 100) ∧
      u.flagC = decide (100 ≤ x + y)) ∧
    ∃ t u, exec (.aluImm .sub (packedBcd y)) s = .next t ∧ exec .daa t = .next u ∧ u.a = packedBcd ((x + 100 - y) % 100) ∧
      u.flagC = decide (x < y)

/-! ### 16-bit arithmetic -/

/-- Rule R190, rule R191 and rule R192: INC rr and DEC rr, which set no flags, and ADD HL,rr, whose carries are out of bits 11
and 15 and which keeps Z. -/
def Obligations.SlotArithmetic : Prop :=
  (∀ rr, Completes (.incPair rr) [0x03 ||| (pairCode rr <<< 4)] 2 (fun s => s.setPair rr (s.pair rr + 1))) ∧
    (∀ rr, Completes (.decPair rr) [0x0B ||| (pairCode rr <<< 4)] 2 (fun s => s.setPair rr (s.pair rr - 1))) ∧
    ∀ rr, Completes (.addHLPair rr) [0x09 ||| (pairCode rr <<< 4)] 2 (fun s =>
      { s.setFlags ⟨s.flagZ, false, decide ((s.hl &&& 0x0FFF).toNat + (s.pair rr &&& 0x0FFF).toNat > 0x0FFF),
          decide (s.hl.toNat + (s.pair rr).toNat > 0xFFFF)⟩ with
        hl := s.hl + s.pair rr })

/-! ### Rotates, shifts and bits -/

/-- Rule R200 to rule R203: the accumulator rotates, which clear Z whatever the result. -/
def Obligations.AccumulatorRotates : Prop :=
  Completes .rlca [0x07] 1 (fun s => (s.setA (s.a.rotateLeft 1)).setFlags ⟨false, false, false, s.a.getLsbD 7⟩) ∧
    Completes .rrca [0x0F] 1 (fun s => (s.setA (s.a.rotateRight 1)).setFlags ⟨false, false, false, s.a.getLsbD 0⟩) ∧
    Completes .rla [0x17] 1 (fun s =>
      (s.setA ((s.a <<< 1) ||| (if s.flagC then 0x01 else 0))).setFlags ⟨false, false, false, s.a.getLsbD 7⟩) ∧
    Completes .rra [0x1F] 1 (fun s =>
      (s.setA ((s.a >>> 1) ||| (if s.flagC then 0x80 else 0))).setFlags ⟨false, false, false, s.a.getLsbD 0⟩)

/-- Rule R204 to rule R212: the rotates, shifts and SWAP of the extended table, of a register and of the byte at `HL`. -/
def Obligations.ExtendedRotatesAndShifts : Prop :=
  Rotates .rlc (fun _ v => v.rotateLeft 1) (fun _ v => v.getLsbD 7) ∧
    Rotates .rrc (fun _ v => v.rotateRight 1) (fun _ v => v.getLsbD 0) ∧
    Rotates .rl (fun c v => (v <<< 1) ||| (if c then 0x01 else 0)) (fun _ v => v.getLsbD 7) ∧
    Rotates .rr (fun c v => (v >>> 1) ||| (if c then 0x80 else 0)) (fun _ v => v.getLsbD 0) ∧
    Rotates .sla (fun _ v => v <<< 1) (fun _ v => v.getLsbD 7) ∧
    Rotates .sra (fun _ v => (v >>> 1) ||| (v &&& 0x80)) (fun _ v => v.getLsbD 0) ∧
    Rotates .swap (fun _ v => ((v &&& 0x0F) <<< 4) ||| (v >>> 4)) (fun _ _ => false) ∧
    Rotates .srl (fun _ v => v >>> 1) (fun _ v => v.getLsbD 0)

/-- Rule R213: BIT of a register and of the byte at `HL`: Z tells a clear bit, N is cleared, Hf set, `Cf` kept; `A` is written
only where the build has `BIT_WRITES_A`. -/
def Obligations.BitTests : Prop :=
  ∀ (b : Fin 8) (effect : Byte → State → State),
    (∀ v s, effect v s =
      if s.params.bitWritesA then (s.setFlags ⟨!v.getLsbD b.val, false, true, s.flagC⟩).setA (v &&& ((1 : Byte) <<< b.val))
      else s.setFlags ⟨!v.getLsbD b.val, false, true, s.flagC⟩) →
    (∀ r, Completes (.bitReg b r) [0xCB, 0x40 ||| (indexCode b <<< 3) ||| regCode r] 2 (fun s => effect (s.reg r) s)) ∧
    LoadsFrom (.bitInd b) [0xCB, 0x46 ||| (indexCode b <<< 3)] State.hl 3 effect

/-- Rule R214 and rule R215: RES and SET of a register and of the byte at `HL`; no flags. -/
def Obligations.BitResetAndSet : Prop :=
  ∀ b : Fin 8,
    (∀ r, Completes (.resReg b r) [0xCB, 0x80 ||| (indexCode b <<< 3) ||| regCode r] 2
      (fun s => s.setReg r (s.reg r &&& ~~~ ((1 : Byte) <<< b.val)))) ∧
    (∀ r, Completes (.setReg b r) [0xCB, 0xC0 ||| (indexCode b <<< 3) ||| regCode r] 2
      (fun s => s.setReg r (s.reg r ||| ((1 : Byte) <<< b.val)))) ∧
    ModifiesAtHL (.resInd b) [0xCB, 0x86 ||| (indexCode b <<< 3)] 4 (fun _ v => v &&& ~~~ ((1 : Byte) <<< b.val)) (fun _ s => s) ∧
    ModifiesAtHL (.setInd b) [0xCB, 0xC6 ||| (indexCode b <<< 3)] 4 (fun _ v => v ||| ((1 : Byte) <<< b.val)) (fun _ s => s)

/-! ### Control transfer -/

/-- Rule R231 to rule R235: the jumps. The conditional ones fetch their operand in both cases and cost less when not taken. -/
def Obligations.Jumps : Prop :=
  (∀ n : Byte, Completes (.jrE8 n) [0x18, n] 3 (fun s => { s with pc := BitVec.ofInt 16 (s.pc.toNat + n.toInt) })) ∧
    (∀ cc (n : Byte), FetchedAs (.jrCond cc n) [0x20 ||| (condCode cc <<< 3), n] ∧
      ∀ s : State, exec (.jrCond cc n) s =
        if s.cond cc then .next { s with pc := BitVec.ofInt 16 (s.pc.toNat + n.toInt), counter := 2 }
        else .next { s with counter := 1 }) ∧
    (∀ lo hi : Byte, Completes (.jpA16 (hi ++ lo)) [0xC3, lo, hi] 4 (fun s => { s with pc := hi ++ lo })) ∧
    (∀ cc (lo hi : Byte), FetchedAs (.jpCond cc (hi ++ lo)) [0xC2 ||| (condCode cc <<< 3), lo, hi] ∧
      ∀ s : State, exec (.jpCond cc (hi ++ lo)) s =
        if s.cond cc then .next { s with pc := hi ++ lo, counter := 3 } else .next { s with counter := 2 }) ∧
    Completes .jpHL [0xE9] 1 (fun s => { s with pc := s.hl })

/-- Rule R236, rule R237 and rule R241: CALL, CALL cc and RST push `PC`, the address of the next instruction, and jump; a
conditional call not taken touches no stack. -/
def Obligations.CallsAndRestarts : Prop :=
  (∀ lo hi : Byte, FetchedAs (.callA16 (hi ++ lo)) [0xCD, lo, hi] ∧
    ∀ s : State, Pushes (.callA16 (hi ++ lo)) s s.pc 6 (fun t => { t with pc := hi ++ lo })) ∧
    (∀ cc (lo hi : Byte), FetchedAs (.callCond cc (hi ++ lo)) [0xC4 ||| (condCode cc <<< 3), lo, hi] ∧
      ∀ s : State,
        (s.cond cc = true → Pushes (.callCond cc (hi ++ lo)) s s.pc 6 (fun t => { t with pc := hi ++ lo })) ∧
        (s.cond cc = false → exec (.callCond cc (hi ++ lo)) s = .next { s with counter := 2 })) ∧
    ∀ k : Fin 8, FetchedAs (.rst k) [0xC7 ||| (indexCode k <<< 3)] ∧
      ∀ s : State, Pushes (.rst k) s s.pc 4 (fun t => { t with pc := ((0xC7 ||| (indexCode k <<< 3)) &&& 0x38).setWidth 16 })

/-- Rule R238, rule R239 and rule R240: RET, RET cc and RETI pop `PC`; a conditional return not taken touches no stack, and
RETI is RET. -/
def Obligations.Returns : Prop :=
  (FetchedAs .ret [0xC9] ∧ ∀ s : State, Pops .ret s 4 (fun v t => { t with pc := v })) ∧
    (FetchedAs .reti [0xD9] ∧ ∀ s : State, Pops .reti s 4 (fun v t => { t with pc := v }) ∧ exec .reti s = exec .ret s) ∧
    ∀ cc, FetchedAs (.retCond cc) [0xC0 ||| (condCode cc <<< 3)] ∧
      ∀ s : State,
        (s.cond cc = true → Pops (.retCond cc) s 5 (fun v t => { t with pc := v })) ∧
        (s.cond cc = false → exec (.retCond cc) s = .next { s with counter := 1 })

/-! ### System instructions, unmapped opcodes -/

/-- Rule R250 to rule R254: NOP, EI and DI have no effect beyond their fetch; HALT and STOP set `halted`, STOP after its second
byte, whatever that is; once halted, an engine's step returns 1, fetches nothing and changes nothing. -/
def Obligations.SystemInstructions : Prop :=
  Completes .nop [0x00] 1 id ∧ Completes .ei [0xFB] 1 id ∧ Completes .di [0xF3] 1 id ∧
    Completes .halt [0x76] 1 (fun s => { s with halted := true }) ∧
    (∀ x, Completes (.stop x) [0x10, x] 1 (fun s => { s with halted := true })) ∧
    ∀ s : State, s.halted = true → executeInstruction s = .next { s with counter := 0 }

/-- The eleven unmapped opcodes of rule R91 are in no build's table, and fetching one raises the decode error of its byte and
its address (rule R84, rule R271). The model's choice, log entry 10 (DEDUCED), is the arrangement: that such an opcode is an
instruction to the decoder, well formed in no build, whose meaning records that error for the address before `PC` and
changes nothing else, and that a build which does not name the opcode as left out reaches the error through that
meaning. -/
def Obligations.UnmappedRowsRaiseTheirDecodeError : Prop :=
  ∀ (i : Instr) (op : Byte),
    (i, op) ∈ ([(.unmappedD3, 0xD3), (.unmappedDB, 0xDB), (.unmappedDD, 0xDD), (.unmappedE3, 0xE3), (.unmappedE4, 0xE4),
      (.unmappedEB, 0xEB), (.unmappedEC, 0xEC), (.unmappedED, 0xED), (.unmappedF4, 0xF4), (.unmappedFC, 0xFC),
      (.unmappedFD, 0xFD)] : List (Instr × Byte)) →
    encode i = [op] ∧ (∀ p : Params, WellFormed p i = false) ∧
      (∀ s : State, exec i s = .next { s with fault := some (.decodeError .primary op (s.pc - 1)) }) ∧
      (∀ s : State, s.halted = false → s.read8 s.pc = .ok op →
        executeInstruction s = .next { s with pc := s.pc + 1, fault := some (.decodeError .primary op s.pc) }) ∧
      ∀ s : State, s.halted = false → s.read8 s.pc = .ok op → s.params.leavesOutPrimary op = false →
        executeInstruction s = exec i (s.setPC (s.pc + 1))

/-! ### Timing -/

/-- While the counter is above 0 each tick only counts down: a machine with nothing from the host is idle, and otherwise as it
was, after as many ticks as its counter tells (rule R303, rule R306). -/
def Obligations.CountdownChangesNothingElse : Prop :=
  ∀ (s : State) (n : Nat), s.fault = none → s.hostWrites = [] → n ≤ s.counter →
    ticks n s = .next { s with counter := s.counter - n }

/-- What an instruction does never depends on the counter (rule R307): run with another counter it gives the same next state
but for the counter. -/
def Obligations.ExecutionIgnoresTheCounter : Prop :=
  ∀ (i : Instr) (s t : State) (k : Nat), exec i s = .next t →
    ∃ u, exec i { s with counter := k } = .next u ∧ { u with counter := t.counter } = t

/-- Rule R304: an instruction that raises nothing leaves a counter of 0 to 5, its cost less 1. -/
def Obligations.CostsAreOneToSix : Prop :=
  ∀ (i : Instr) (s t : State), s.fault = none → exec i s = .next t → t.fault = none → t.counter ≤ 5

/-! ### The host's side -/

/-- Rule R288: any sequence of calls of `Advance` returns in all what one call with the sum of its arguments returns, makes
the same number of ticks, and leaves the driver and the machine as that call does; from `Start` the returns add up to
`4 * floor(floor(T * BASE_CLOCK_HZ / 10^9) / 4)`; and the rule's examples at 4194304 Hz. -/
def Obligations.AdvanceIsAdditive : Prop :=
  ∀ (sys : System) (times : List Nat), sys.driver.wf = true →
    advanceAll sys times = sys.advance times.sum ∧
    (∃ next, (sys.advance times.sum).2 = .next next ∧ next.driver.wf = true) ∧
    Driver.start.wf = true ∧
    (sys.driver = Driver.start →
      (advanceAll sys times).1 = 4 * (times.sum * sys.state.params.baseClockHz / 10 ^ 9 / 4)) ∧
    (sys.driver = Driver.start → sys.state.params.baseClockHz = 4194304 →
      (∀ k, k ≤ 6 → (advanceAll sys (List.replicate k 1000)).1 = 4 * k) ∧ (sys.advance 6000).1 = 24 ∧
        Driver.start.after 4194304 1000 = ⟨194304000, 0⟩ ∧ Driver.start.after 4194304 6000 = ⟨165824000, 1⟩ ∧
        (sys.advance (10 ^ 9)).1 = 4194304 ∧ Driver.start.cycles 4194304 (10 ^ 9) = 1048576)

/-- Rule R281, rule R282, rule R283 and rule R285: the size codes, and the load checks in their order; a load that fails gives
no new system, and a cartridge that passes replaces the one before and changes nothing of the machine. -/
def Obligations.CartridgeChecksInOrder : Prop :=
  (∀ k : Nat, k ≤ 8 → romSizeOfCode (BitVec.ofNat 8 k) = some (32768 <<< k)) ∧
    romSizeOfCode 0x52 = some 1179648 ∧ romSizeOfCode 0x53 = some 1310720 ∧ romSizeOfCode 0x54 = some 1572864 ∧
    (∀ c : Byte, c.toNat > 8 → c ≠ 0x52 → c ≠ 0x53 → c ≠ 0x54 → romSizeOfCode c = none) ∧
    (∀ c : Byte, ramSizeOfCode c = ([0, 2, 8, 32, 128, 64].map (fun n => n * 1024))[c.toNat]?) ∧
    ∀ image : List Byte,
      (∀ e, checkCartridge image = .error e → ∀ sys : System, sys.loadCartridge image = .error e) ∧
      (image.length < 0x0150 → checkCartridge image = .error .cartridgeSizeMismatch) ∧
      ∀ controller romCode ramCode : Byte, 0x0150 ≤ image.length → image[0x0147]? = some controller →
        image[0x0148]? = some romCode → image[0x0149]? = some ramCode →
        (romSizeOfCode romCode = none → checkCartridge image = .error .invalidRomSizeCode) ∧
        (∀ size, romSizeOfCode romCode = some size →
          (image.length ≠ size → checkCartridge image = .error .cartridgeSizeMismatch) ∧
          (image.length = size → ramSizeOfCode ramCode = none → checkCartridge image = .error .invalidRamSizeCode) ∧
          (∀ ram, image.length = size → ramSizeOfCode ramCode = some ram →
            (controller ≠ 0x00 → checkCartridge image = .error .unsupportedController) ∧
            (controller = 0x00 → ∃ c, checkCartridge image = .ok c ∧ c.romSize = size ∧ c.ramSize = ram ∧
              c.title = (image.drop 0x0134).take 16 ∧
              ∀ sys : System, sys.loadCartridge image = .ok { sys with cartridge := some c })))

/-- Rule R37 and rule R289: the host may preset any register before the first tick and none after it, and the first tick may be
a `Tick()` that the host calls itself (the step of the instance's machine, rule R286) or one that `Advance` drives. The
model's choice, log entry 13 (DESIGN CHOICE), is the mark that tells it: the field `ticked` beside the machine, set by every
`Tick()` of the host, and by a call of `Advance` exactly where it drives a machine cycle. -/
def Obligations.PresetsEndWithTheFirstTick : Prop :=
  ∀ (sys : System) (p : Preset),
    (sys.ticked = false → ∃ next, sys.preset p = some next ∧ next.state.af = p.af &&& 0xFFF0 ∧ next.state.bc = p.bc ∧
      next.state.de = p.de ∧ next.state.hl = p.hl ∧ next.state.sp = p.sp ∧ next.state.pc = p.pc) ∧
    (sys.ticked = true → sys.preset p = none) ∧
    (∃ next, sys.tick = .next next ∧ step sys.state = .next next.state ∧ next.driver = sys.driver ∧
      next.cartridge = sys.cartridge ∧ next.ticked = true ∧ next.preset p = none) ∧
    ∀ (ns : Nat) (next : System), (sys.advance ns).2 = .next next →
      (next.ticked = true ↔ sys.ticked = true ∨ 0 < sys.driver.cycles sys.state.params.baseClockHz ns)

/-- Rule R290: the outcome of a run is read from the state: faulted, halted, or running. -/
def Obligations.OutcomeIsReadFromTheState : Prop :=
  ∀ s : State,
    (∀ e, s.outcome = .faulted e ↔ s.fault = some e) ∧ (s.outcome = .halted ↔ s.fault = none ∧ s.halted = true) ∧
    (s.outcome = .running ↔ s.fault = none ∧ s.halted = false)
end

