-- ==== Sys2Proof/Laws/Bits.lean ====
section
/-! SUPPORT. The two views of a slot agree (spec/10_state.md rule R22): cutting what was joined, joining what was cut. -/

namespace Sys2Proof.Machine

@[simp] theorem hiByte_joinBytes (hi lo : Byte) : hiByte (joinBytes hi lo) = hi := by
  apply BitVec.eq_of_getLsbD_eq
  intro i hi'
  simp only [hiByte, joinBytes, BitVec.getLsbD_extractLsb', BitVec.getLsbD_append, hi', decide_true, Bool.true_and]
  rw [if_neg (by omega)]
  congr 1; omega

@[simp] theorem loByte_joinBytes (hi lo : Byte) : loByte (joinBytes hi lo) = lo := by
  apply BitVec.eq_of_getLsbD_eq
  intro i hi'
  simp only [loByte, joinBytes, BitVec.getLsbD_extractLsb', BitVec.getLsbD_append, hi', decide_true, Bool.true_and]
  rw [if_pos (by omega)]
  congr 1; omega

@[simp] theorem joinBytes_hiByte_loByte (w : Word) : joinBytes (hiByte w) (loByte w) = w := by
  apply BitVec.eq_of_getLsbD_eq
  intro i hi'
  simp only [hiByte, loByte, joinBytes, BitVec.getLsbD_append, BitVec.getLsbD_extractLsb']
  by_cases h : i < 8
  · simp [h]
  · simp only [h, if_false]
    have h2 : i - 8 < 8 := by omega
    have h3 : 8 + (i - 8) = i := by omega
    simp [h2, h3]

theorem joinBytes_injective {hi lo hi' lo' : Byte} (h : joinBytes hi lo = joinBytes hi' lo') : hi = hi' ∧ lo = lo' :=
  ⟨by simpa using congrArg hiByte h, by simpa using congrArg loByte h⟩

/-- `AF <- v` keeps the high byte and masks the low one. -/
theorem and_FFF0_eq (v : Word) : v &&& 0xFFF0 = joinBytes (hiByte v) (loByte v &&& 0xF0) := by
  have hF : (0xFFF0 : Word) = joinBytes 0xFF 0xF0 := by decide
  apply BitVec.eq_of_getLsbD_eq
  intro i hi'
  rw [hF]
  simp only [hiByte, loByte, joinBytes, BitVec.getLsbD_append, BitVec.getLsbD_and, BitVec.getLsbD_extractLsb']
  by_cases h : i < 8
  · simp [h]
  · have h2 : i - 8 < 8 := by omega
    have h3 : 8 + (i - 8) = i := by omega
    have h4 : (0xFF : Byte).getLsbD (i - 8) = true := by
      have : ∀ k, k < 8 → (0xFF : Byte).getLsbD k = true := by decide
      exact this _ h2
    simp only [h, if_false, h2, h3, h4, decide_true, Bool.true_and, Bool.and_true]

@[simp] theorem and_F0_and_0F (v : Byte) : v &&& 0xF0 &&& 0x0F = 0 := by
  rw [BitVec.and_assoc]
  have : (0xF0 : Byte) &&& 0x0F = 0 := by decide
  rw [this]; simp

@[simp] theorem and_F0_and_F0 (v : Byte) : v &&& 0xF0 &&& 0xF0 = v &&& 0xF0 := by
  rw [BitVec.and_assoc, BitVec.and_self]

/-- The low nibble of a byte as an integer, by mask and by remainder. -/
theorem toNat_and_0F (v : Byte) : (v &&& 0x0F).toNat = v.toNat % 16 := by
  rw [BitVec.toNat_and]
  exact Nat.and_two_pow_sub_one_eq_mod _ 4

/-- The low nibble of a word. -/
theorem toNat_and_000F (w : Word) : (w &&& 0x0F).toNat = w.toNat % 16 := by
  rw [BitVec.toNat_and]
  exact Nat.and_two_pow_sub_one_eq_mod _ 4

/-- The low byte of a word. -/
theorem toNat_and_00FF (w : Word) : (w &&& 0xFF).toNat = w.toNat % 256 := by
  rw [BitVec.toNat_and]
  exact Nat.and_two_pow_sub_one_eq_mod _ 8

/-- The low twelve bits of a word. -/
theorem toNat_and_0FFF (w : Word) : (w &&& 0x0FFF).toNat = w.toNat % 0x1000 := by
  rw [BitVec.toNat_and]
  exact Nat.and_two_pow_sub_one_eq_mod _ 12

/-- The addition of a sign-extended displacement is the integer one, taken mod 2^16 (rule R83). -/
theorem add_signExtendByte (w : Word) (e : Byte) : w + signExtendByte e = BitVec.ofInt 16 (w.toNat + e.toInt) := by
  unfold signExtendByte BitVec.signExtend
  rw [BitVec.ofInt_add, BitVec.ofInt_natCast, BitVec.ofNat_toNat, BitVec.setWidth_eq]

/-- Adding the negative step is the subtraction of 1 (rule R121, rule R123). -/
theorem add_neg_one (w : Word) : w + (-1) = w - 1 := (BitVec.sub_eq_add_neg w 1).symm

end Sys2Proof.Machine
end

