-- ==== Sys2Proof/Laws/Driver.lean ====
section
/-! SUPPORT. What the host's calls make of an instance, said once: a `Tick()`, a call of `Advance`, and the presets. -/

namespace Sys2Proof.Machine

/-- `Tick()` is one step of the instance's machine, and it ends the presets (rule R286, rule R289). -/
theorem System.tick_of_step {sys : System} {s : State} (h : step sys.state = .next s) :
    sys.tick = .next { sys with state := s, ticked := true } := by
  have h' : hostThenTick sys.state = .next s := h
  rw [System.tick, h']

/-- `Advance` is the ticks it drives, and it ends the presets where it drives one (rule R287, rule R289). -/
theorem System.advance_of_ticks {sys : System} {ns : Nat} {s : State}
    (h : ticks (sys.driver.cycles sys.state.params.baseClockHz ns) sys.state = .next s) :
    (sys.advance ns).2 = .next { sys with
      state := s
      driver := sys.driver.after sys.state.params.baseClockHz ns
      ticked := sys.ticked || decide (0 < sys.driver.cycles sys.state.params.baseClockHz ns) } := by
  simp only [System.advance, h]

/-- A call of `Advance` that drives one cycle leaves the machine as the host's `Tick()` does (rule R287). -/
theorem System.advance_one_cycle {sys : System} {ns : Nat} {s : State} (hs : step sys.state = .next s)
    (hc : sys.driver.cycles sys.state.params.baseClockHz ns = 1) :
    (sys.advance ns).2 = .next { sys with
      state := s, driver := sys.driver.after sys.state.params.baseClockHz ns, ticked := true } := by
  have h' : hostThenTick sys.state = .next s := hs
  rw [System.advance_of_ticks (s := s) (by rw [hc]; simp only [ticks, h']), hc]
  simp

/-- No preset once the first tick has been made (rule R37). -/
@[simp] theorem System.preset_of_ticked {sys : System} (h : sys.ticked = true) (p : Preset) : sys.preset p = none := by
  simp [System.preset, h]

end Sys2Proof.Machine
end

