-- ==== Sys2Proof/Laws/Family.lean ====
section
/-! SUPPORT. Every instruction is one of a family with its operand fields, and `exec` of a family is one shared operation:
proofs over all instructions take the cases of `Instr.byFamily` and cite these equations in place of unfolding `exec`. -/

namespace Sys2Proof.Machine

/-! ### `exec` by family -/

@[simp] theorem exec_ldRegReg (dst src : Reg) (s : State) : exec (.ldRegReg dst src) s = ldRegRegOp dst src 1 s := by
  cases dst <;> cases src <;> rfl

@[simp] theorem exec_ldRegInd (dst : Reg) (s : State) : exec (.ldRegInd dst) s = loadOp dst s.hl 2 s := by
  cases dst <;> rfl

@[simp] theorem exec_ldIndReg (src : Reg) (s : State) : exec (.ldIndReg src) s = storeOp s.hl (s.reg src) 2 s := by
  cases src <;> rfl

@[simp] theorem exec_ldRegImm (dst : Reg) (n : Byte) (s : State) : exec (.ldRegImm dst n) s = ldRegImmOp dst n 2 s := by
  cases dst <;> rfl

@[simp] theorem exec_ldPairImm (rr : Pair) (w : Word) (s : State) : exec (.ldPairImm rr w) s = ldPairImmOp rr w 3 s := by
  cases rr <;> rfl

@[simp] theorem exec_pushPair (qq : StackPair) (s : State) : exec (.pushPair qq) s = pushOp qq 4 s := by
  cases qq <;> rfl

@[simp] theorem exec_popPair (qq : StackPair) (s : State) : exec (.popPair qq) s = popOp qq 3 s := by
  cases qq <;> rfl

@[simp] theorem exec_aluReg (op : AluOp) (r : Reg) (s : State) : exec (.aluReg op r) s = aluOp op (s.reg r) 1 s := by
  cases op <;> cases r <;> rfl

@[simp] theorem exec_aluInd (op : AluOp) (s : State) : exec (.aluInd op) s = aluIndOp op 2 s := by
  cases op <;> rfl

@[simp] theorem exec_aluImm (op : AluOp) (n : Byte) (s : State) : exec (.aluImm op n) s = aluOp op n 2 s := by
  cases op <;> rfl

@[simp] theorem exec_incReg (dst : Reg) (s : State) : exec (.incReg dst) s = incRegOp dst 1 s := by
  cases dst <;> rfl

@[simp] theorem exec_decReg (dst : Reg) (s : State) : exec (.decReg dst) s = decRegOp dst 1 s := by
  cases dst <;> rfl

@[simp] theorem exec_incPair (rr : Pair) (s : State) : exec (.incPair rr) s = incPairOp rr 2 s := by
  cases rr <;> rfl

@[simp] theorem exec_decPair (rr : Pair) (s : State) : exec (.decPair rr) s = decPairOp rr 2 s := by
  cases rr <;> rfl

@[simp] theorem exec_addHLPair (rr : Pair) (s : State) : exec (.addHLPair rr) s = addHLOp rr 2 s := by
  cases rr <;> rfl

@[simp] theorem exec_rotReg (op : RotOp) (r : Reg) (s : State) : exec (.rotReg op r) s = rotRegOp op r 2 s := by
  cases op <;> cases r <;> rfl

@[simp] theorem exec_rotInd (op : RotOp) (s : State) : exec (.rotInd op) s = rotIndOp op 4 s := by
  cases op <;> rfl

@[simp] theorem exec_bitReg (b : Fin 8) (r : Reg) (s : State) : exec (.bitReg b r) s = bitRegOp b r 2 s := by
  fin_cases b <;> cases r <;> rfl

@[simp] theorem exec_bitInd (b : Fin 8) (s : State) : exec (.bitInd b) s = bitIndOp b 3 s := by
  fin_cases b <;> rfl

@[simp] theorem exec_resReg (b : Fin 8) (r : Reg) (s : State) : exec (.resReg b r) s = resRegOp b r 2 s := by
  fin_cases b <;> cases r <;> rfl

@[simp] theorem exec_resInd (b : Fin 8) (s : State) : exec (.resInd b) s = resIndOp b 4 s := by
  fin_cases b <;> rfl

@[simp] theorem exec_setReg (b : Fin 8) (r : Reg) (s : State) : exec (.setReg b r) s = setRegOp b r 2 s := by
  fin_cases b <;> cases r <;> rfl

@[simp] theorem exec_setInd (b : Fin 8) (s : State) : exec (.setInd b) s = setIndOp b 4 s := by
  fin_cases b <;> rfl

@[simp] theorem exec_jrCond (cc : Cond) (e : Byte) (s : State) : exec (.jrCond cc e) s = whenOp cc (jumpOp (s.pc + signExtendByte e) 3) 2 s := by
  cases cc <;> rfl

@[simp] theorem exec_jpCond (cc : Cond) (w : Word) (s : State) : exec (.jpCond cc w) s = whenOp cc (jumpOp w 4) 3 s := by
  cases cc <;> rfl

@[simp] theorem exec_callCond (cc : Cond) (w : Word) (s : State) : exec (.callCond cc w) s = whenOp cc (callOp w 6) 3 s := by
  cases cc <;> rfl

@[simp] theorem exec_retCond (cc : Cond) (s : State) : exec (.retCond cc) s = whenOp cc (retOp 5) 2 s := by
  cases cc <;> rfl

@[simp] theorem exec_rst (k : Fin 8) (s : State) : exec (.rst k) s = callOp (rstVector k) 4 s := by
  fin_cases k <;> rfl

@[simp] theorem exec_nop (s : State) : exec (.nop) s = idleOp 1 s := rfl

@[simp] theorem exec_ldIndBCA (s : State) : exec (.ldIndBCA) s = storeOp s.bc s.a 2 s := rfl

@[simp] theorem exec_rlca (s : State) : exec (.rlca) s = rotAOp .rlc 1 s := rfl

@[simp] theorem exec_ldIndA16SP (w : Word) (s : State) : exec (.ldIndA16SP w) s = storeSPOp w 5 s := rfl

@[simp] theorem exec_ldAIndBC (s : State) : exec (.ldAIndBC) s = loadOp .a s.bc 2 s := rfl

@[simp] theorem exec_rrca (s : State) : exec (.rrca) s = rotAOp .rrc 1 s := rfl

@[simp] theorem exec_stop (x : Byte) (s : State) : exec (.stop x) s = haltOp 1 s := rfl

@[simp] theorem exec_ldIndDEA (s : State) : exec (.ldIndDEA) s = storeOp s.de s.a 2 s := rfl

@[simp] theorem exec_rla (s : State) : exec (.rla) s = rotAOp .rl 1 s := rfl

@[simp] theorem exec_jrE8 (e : Byte) (s : State) : exec (.jrE8 e) s = jumpOp (s.pc + signExtendByte e) 3 s := rfl

@[simp] theorem exec_ldAIndDE (s : State) : exec (.ldAIndDE) s = loadOp .a s.de 2 s := rfl

@[simp] theorem exec_rra (s : State) : exec (.rra) s = rotAOp .rr 1 s := rfl

@[simp] theorem exec_ldIndHLIncA (s : State) : exec (.ldIndHLIncA) s = storeStepOp 1 2 s := rfl

@[simp] theorem exec_daa (s : State) : exec (.daa) s = daaOp 1 s := rfl

@[simp] theorem exec_ldAIndHLInc (s : State) : exec (.ldAIndHLInc) s = loadStepOp 1 2 s := rfl

@[simp] theorem exec_cpl (s : State) : exec (.cpl) s = cplOp 1 s := rfl

@[simp] theorem exec_ldIndHLDecA (s : State) : exec (.ldIndHLDecA) s = storeStepOp (-1) 2 s := rfl

@[simp] theorem exec_incIndHL (s : State) : exec (.incIndHL) s = incIndOp 3 s := rfl

@[simp] theorem exec_decIndHL (s : State) : exec (.decIndHL) s = decIndOp 3 s := rfl

@[simp] theorem exec_ldIndHLD8 (n : Byte) (s : State) : exec (.ldIndHLD8 n) s = storeOp s.hl n 3 s := rfl

@[simp] theorem exec_scf (s : State) : exec (.scf) s = scfOp 1 s := rfl

@[simp] theorem exec_ldAIndHLDec (s : State) : exec (.ldAIndHLDec) s = loadStepOp (-1) 2 s := rfl

@[simp] theorem exec_ccf (s : State) : exec (.ccf) s = ccfOp 1 s := rfl

@[simp] theorem exec_halt (s : State) : exec (.halt) s = haltOp 1 s := rfl

@[simp] theorem exec_jpA16 (w : Word) (s : State) : exec (.jpA16 w) s = jumpOp w 4 s := rfl

@[simp] theorem exec_ret (s : State) : exec (.ret) s = retOp 4 s := rfl

@[simp] theorem exec_callA16 (w : Word) (s : State) : exec (.callA16 w) s = callOp w 6 s := rfl

@[simp] theorem exec_reti (s : State) : exec (.reti) s = retOp 4 s := rfl

@[simp] theorem exec_ldhIndA8A (n : Byte) (s : State) : exec (.ldhIndA8A n) s = storeOp (topPage n) s.a 3 s := rfl

@[simp] theorem exec_ldIndCA (s : State) : exec (.ldIndCA) s = storeOp (topPage s.c) s.a 2 s := rfl

@[simp] theorem exec_addSPE8 (e : Byte) (s : State) : exec (.addSPE8 e) s = addSPOp e 4 s := rfl

@[simp] theorem exec_jpHL (s : State) : exec (.jpHL) s = jumpOp s.hl 1 s := rfl

@[simp] theorem exec_ldIndA16A (w : Word) (s : State) : exec (.ldIndA16A w) s = storeOp w s.a 4 s := rfl

@[simp] theorem exec_ldhAIndA8 (n : Byte) (s : State) : exec (.ldhAIndA8 n) s = loadOp .a (topPage n) 3 s := rfl

@[simp] theorem exec_ldAIndC (s : State) : exec (.ldAIndC) s = loadOp .a (topPage s.c) 2 s := rfl

@[simp] theorem exec_di (s : State) : exec (.di) s = idleOp 1 s := rfl

@[simp] theorem exec_ldHLSPE8 (e : Byte) (s : State) : exec (.ldHLSPE8 e) s = ldHLSPOp e 3 s := rfl

@[simp] theorem exec_ldSPHL (s : State) : exec (.ldSPHL) s = ldSPHLOp 2 s := rfl

@[simp] theorem exec_ldAIndA16 (w : Word) (s : State) : exec (.ldAIndA16 w) s = loadOp .a w 4 s := rfl

@[simp] theorem exec_ei (s : State) : exec (.ei) s = idleOp 1 s := rfl

@[simp] theorem exec_unmappedD3 (s : State) : exec (.unmappedD3) s = unmappedOpcode 0xD3 s := rfl

@[simp] theorem exec_unmappedDB (s : State) : exec (.unmappedDB) s = unmappedOpcode 0xDB s := rfl

@[simp] theorem exec_unmappedDD (s : State) : exec (.unmappedDD) s = unmappedOpcode 0xDD s := rfl

@[simp] theorem exec_unmappedE3 (s : State) : exec (.unmappedE3) s = unmappedOpcode 0xE3 s := rfl

@[simp] theorem exec_unmappedE4 (s : State) : exec (.unmappedE4) s = unmappedOpcode 0xE4 s := rfl

@[simp] theorem exec_unmappedEB (s : State) : exec (.unmappedEB) s = unmappedOpcode 0xEB s := rfl

@[simp] theorem exec_unmappedEC (s : State) : exec (.unmappedEC) s = unmappedOpcode 0xEC s := rfl

@[simp] theorem exec_unmappedED (s : State) : exec (.unmappedED) s = unmappedOpcode 0xED s := rfl

@[simp] theorem exec_unmappedF4 (s : State) : exec (.unmappedF4) s = unmappedOpcode 0xF4 s := rfl

@[simp] theorem exec_unmappedFC (s : State) : exec (.unmappedFC) s = unmappedOpcode 0xFC s := rfl

@[simp] theorem exec_unmappedFD (s : State) : exec (.unmappedFD) s = unmappedOpcode 0xFD s := rfl

/-! ### The cases of an instruction -/

/-- Every instruction, by family and operand fields. -/
theorem Instr.byFamily {P : Instr → Prop}
    (h_ldRegReg : ∀ (dst src : Reg), P (.ldRegReg dst src))
    (h_ldRegInd : ∀ (dst : Reg), P (.ldRegInd dst))
    (h_ldIndReg : ∀ (src : Reg), P (.ldIndReg src))
    (h_ldRegImm : ∀ (dst : Reg) (n : Byte), P (.ldRegImm dst n))
    (h_ldPairImm : ∀ (rr : Pair) (w : Word), P (.ldPairImm rr w))
    (h_pushPair : ∀ (qq : StackPair), P (.pushPair qq))
    (h_popPair : ∀ (qq : StackPair), P (.popPair qq))
    (h_aluReg : ∀ (op : AluOp) (r : Reg), P (.aluReg op r))
    (h_aluInd : ∀ (op : AluOp), P (.aluInd op))
    (h_aluImm : ∀ (op : AluOp) (n : Byte), P (.aluImm op n))
    (h_incReg : ∀ (dst : Reg), P (.incReg dst))
    (h_decReg : ∀ (dst : Reg), P (.decReg dst))
    (h_incPair : ∀ (rr : Pair), P (.incPair rr))
    (h_decPair : ∀ (rr : Pair), P (.decPair rr))
    (h_addHLPair : ∀ (rr : Pair), P (.addHLPair rr))
    (h_rotReg : ∀ (op : RotOp) (r : Reg), P (.rotReg op r))
    (h_rotInd : ∀ (op : RotOp), P (.rotInd op))
    (h_bitReg : ∀ (b : Fin 8) (r : Reg), P (.bitReg b r))
    (h_bitInd : ∀ (b : Fin 8), P (.bitInd b))
    (h_resReg : ∀ (b : Fin 8) (r : Reg), P (.resReg b r))
    (h_resInd : ∀ (b : Fin 8), P (.resInd b))
    (h_setReg : ∀ (b : Fin 8) (r : Reg), P (.setReg b r))
    (h_setInd : ∀ (b : Fin 8), P (.setInd b))
    (h_jrCond : ∀ (cc : Cond) (e : Byte), P (.jrCond cc e))
    (h_jpCond : ∀ (cc : Cond) (w : Word), P (.jpCond cc w))
    (h_callCond : ∀ (cc : Cond) (w : Word), P (.callCond cc w))
    (h_retCond : ∀ (cc : Cond), P (.retCond cc))
    (h_rst : ∀ (k : Fin 8), P (.rst k))
    (h_nop : P .nop)
    (h_ldIndBCA : P .ldIndBCA)
    (h_rlca : P .rlca)
    (h_ldIndA16SP : ∀ w, P (.ldIndA16SP w))
    (h_ldAIndBC : P .ldAIndBC)
    (h_rrca : P .rrca)
    (h_stop : ∀ x, P (.stop x))
    (h_ldIndDEA : P .ldIndDEA)
    (h_rla : P .rla)
    (h_jrE8 : ∀ e, P (.jrE8 e))
    (h_ldAIndDE : P .ldAIndDE)
    (h_rra : P .rra)
    (h_ldIndHLIncA : P .ldIndHLIncA)
    (h_daa : P .daa)
    (h_ldAIndHLInc : P .ldAIndHLInc)
    (h_cpl : P .cpl)
    (h_ldIndHLDecA : P .ldIndHLDecA)
    (h_incIndHL : P .incIndHL)
    (h_decIndHL : P .decIndHL)
    (h_ldIndHLD8 : ∀ n, P (.ldIndHLD8 n))
    (h_scf : P .scf)
    (h_ldAIndHLDec : P .ldAIndHLDec)
    (h_ccf : P .ccf)
    (h_halt : P .halt)
    (h_jpA16 : ∀ w, P (.jpA16 w))
    (h_ret : P .ret)
    (h_callA16 : ∀ w, P (.callA16 w))
    (h_reti : P .reti)
    (h_ldhIndA8A : ∀ n, P (.ldhIndA8A n))
    (h_ldIndCA : P .ldIndCA)
    (h_addSPE8 : ∀ e, P (.addSPE8 e))
    (h_jpHL : P .jpHL)
    (h_ldIndA16A : ∀ w, P (.ldIndA16A w))
    (h_ldhAIndA8 : ∀ n, P (.ldhAIndA8 n))
    (h_ldAIndC : P .ldAIndC)
    (h_di : P .di)
    (h_ldHLSPE8 : ∀ e, P (.ldHLSPE8 e))
    (h_ldSPHL : P .ldSPHL)
    (h_ldAIndA16 : ∀ w, P (.ldAIndA16 w))
    (h_ei : P .ei)
    (h_unmappedD3 : P .unmappedD3)
    (h_unmappedDB : P .unmappedDB)
    (h_unmappedDD : P .unmappedDD)
    (h_unmappedE3 : P .unmappedE3)
    (h_unmappedE4 : P .unmappedE4)
    (h_unmappedEB : P .unmappedEB)
    (h_unmappedEC : P .unmappedEC)
    (h_unmappedED : P .unmappedED)
    (h_unmappedF4 : P .unmappedF4)
    (h_unmappedFC : P .unmappedFC)
    (h_unmappedFD : P .unmappedFD)
    (i : Instr) : P i := by
  cases i with
  | nop => exact h_nop
  | ldBCD16 w => exact h_ldPairImm .bc w
  | ldIndBCA => exact h_ldIndBCA
  | incBC => exact h_incPair .bc
  | incB => exact h_incReg .b
  | decB => exact h_decReg .b
  | ldBD8 n => exact h_ldRegImm .b n
  | rlca => exact h_rlca
  | ldIndA16SP w => exact h_ldIndA16SP w
  | addHLBC => exact h_addHLPair .bc
  | ldAIndBC => exact h_ldAIndBC
  | decBC => exact h_decPair .bc
  | incC => exact h_incReg .c
  | decC => exact h_decReg .c
  | ldCD8 n => exact h_ldRegImm .c n
  | rrca => exact h_rrca
  | stop x => exact h_stop x
  | ldDED16 w => exact h_ldPairImm .de w
  | ldIndDEA => exact h_ldIndDEA
  | incDE => exact h_incPair .de
  | incD => exact h_incReg .d
  | decD => exact h_decReg .d
  | ldDD8 n => exact h_ldRegImm .d n
  | rla => exact h_rla
  | jrE8 e => exact h_jrE8 e
  | addHLDE => exact h_addHLPair .de
  | ldAIndDE => exact h_ldAIndDE
  | decDE => exact h_decPair .de
  | incE => exact h_incReg .e
  | decE => exact h_decReg .e
  | ldED8 n => exact h_ldRegImm .e n
  | rra => exact h_rra
  | jrNZE8 e => exact h_jrCond .nz e
  | ldHLD16 w => exact h_ldPairImm .hl w
  | ldIndHLIncA => exact h_ldIndHLIncA
  | incHL => exact h_incPair .hl
  | incH => exact h_incReg .h
  | decH => exact h_decReg .h
  | ldHD8 n => exact h_ldRegImm .h n
  | daa => exact h_daa
  | jrZE8 e => exact h_jrCond .z e
  | addHLHL => exact h_addHLPair .hl
  | ldAIndHLInc => exact h_ldAIndHLInc
  | decHL => exact h_decPair .hl
  | incL => exact h_incReg .l
  | decL => exact h_decReg .l
  | ldLD8 n => exact h_ldRegImm .l n
  | cpl => exact h_cpl
  | jrNCE8 e => exact h_jrCond .nc e
  | ldSPD16 w => exact h_ldPairImm .sp w
  | ldIndHLDecA => exact h_ldIndHLDecA
  | incSP => exact h_incPair .sp
  | incIndHL => exact h_incIndHL
  | decIndHL => exact h_decIndHL
  | ldIndHLD8 n => exact h_ldIndHLD8 n
  | scf => exact h_scf
  | jrCE8 e => exact h_jrCond .c e
  | addHLSP => exact h_addHLPair .sp
  | ldAIndHLDec => exact h_ldAIndHLDec
  | decSP => exact h_decPair .sp
  | incA => exact h_incReg .a
  | decA => exact h_decReg .a
  | ldAD8 n => exact h_ldRegImm .a n
  | ccf => exact h_ccf
  | ldBB => exact h_ldRegReg .b .b
  | ldBC => exact h_ldRegReg .b .c
  | ldBD => exact h_ldRegReg .b .d
  | ldBE => exact h_ldRegReg .b .e
  | ldBH => exact h_ldRegReg .b .h
  | ldBL => exact h_ldRegReg .b .l
  | ldBIndHL => exact h_ldRegInd .b
  | ldBA => exact h_ldRegReg .b .a
  | ldCB => exact h_ldRegReg .c .b
  | ldCC => exact h_ldRegReg .c .c
  | ldCD => exact h_ldRegReg .c .d
  | ldCE => exact h_ldRegReg .c .e
  | ldCH => exact h_ldRegReg .c .h
  | ldCL => exact h_ldRegReg .c .l
  | ldCIndHL => exact h_ldRegInd .c
  | ldCA => exact h_ldRegReg .c .a
  | ldDB => exact h_ldRegReg .d .b
  | ldDC => exact h_ldRegReg .d .c
  | ldDD => exact h_ldRegReg .d .d
  | ldDE => exact h_ldRegReg .d .e
  | ldDH => exact h_ldRegReg .d .h
  | ldDL => exact h_ldRegReg .d .l
  | ldDIndHL => exact h_ldRegInd .d
  | ldDA => exact h_ldRegReg .d .a
  | ldEB => exact h_ldRegReg .e .b
  | ldEC => exact h_ldRegReg .e .c
  | ldED => exact h_ldRegReg .e .d
  | ldEE => exact h_ldRegReg .e .e
  | ldEH => exact h_ldRegReg .e .h
  | ldEL => exact h_ldRegReg .e .l
  | ldEIndHL => exact h_ldRegInd .e
  | ldEA => exact h_ldRegReg .e .a
  | ldHB => exact h_ldRegReg .h .b
  | ldHC => exact h_ldRegReg .h .c
  | ldHD => exact h_ldRegReg .h .d
  | ldHE => exact h_ldRegReg .h .e
  | ldHH => exact h_ldRegReg .h .h
  | ldHL => exact h_ldRegReg .h .l
  | ldHIndHL => exact h_ldRegInd .h
  | ldHA => exact h_ldRegReg .h .a
  | ldLB => exact h_ldRegReg .l .b
  | ldLC => exact h_ldRegReg .l .c
  | ldLD => exact h_ldRegReg .l .d
  | ldLE => exact h_ldRegReg .l .e
  | ldLH => exact h_ldRegReg .l .h
  | ldLL => exact h_ldRegReg .l .l
  | ldLIndHL => exact h_ldRegInd .l
  | ldLA => exact h_ldRegReg .l .a
  | ldIndHLB => exact h_ldIndReg .b
  | ldIndHLC => exact h_ldIndReg .c
  | ldIndHLD => exact h_ldIndReg .d
  | ldIndHLE => exact h_ldIndReg .e
  | ldIndHLH => exact h_ldIndReg .h
  | ldIndHLL => exact h_ldIndReg .l
  | halt => exact h_halt
  | ldIndHLA => exact h_ldIndReg .a
  | ldAB => exact h_ldRegReg .a .b
  | ldAC => exact h_ldRegReg .a .c
  | ldAD => exact h_ldRegReg .a .d
  | ldAE => exact h_ldRegReg .a .e
  | ldAH => exact h_ldRegReg .a .h
  | ldAL => exact h_ldRegReg .a .l
  | ldAIndHL => exact h_ldRegInd .a
  | ldAA => exact h_ldRegReg .a .a
  | addAB => exact h_aluReg .add .b
  | addAC => exact h_aluReg .add .c
  | addAD => exact h_aluReg .add .d
  | addAE => exact h_aluReg .add .e
  | addAH => exact h_aluReg .add .h
  | addAL => exact h_aluReg .add .l
  | addAIndHL => exact h_aluInd .add
  | addAA => exact h_aluReg .add .a
  | adcAB => exact h_aluReg .adc .b
  | adcAC => exact h_aluReg .adc .c
  | adcAD => exact h_aluReg .adc .d
  | adcAE => exact h_aluReg .adc .e
  | adcAH => exact h_aluReg .adc .h
  | adcAL => exact h_aluReg .adc .l
  | adcAIndHL => exact h_aluInd .adc
  | adcAA => exact h_aluReg .adc .a
  | subAB => exact h_aluReg .sub .b
  | subAC => exact h_aluReg .sub .c
  | subAD => exact h_aluReg .sub .d
  | subAE => exact h_aluReg .sub .e
  | subAH => exact h_aluReg .sub .h
  | subAL => exact h_aluReg .sub .l
  | subAIndHL => exact h_aluInd .sub
  | subAA => exact h_aluReg .sub .a
  | sbcAB => exact h_aluReg .sbc .b
  | sbcAC => exact h_aluReg .sbc .c
  | sbcAD => exact h_aluReg .sbc .d
  | sbcAE => exact h_aluReg .sbc .e
  | sbcAH => exact h_aluReg .sbc .h
  | sbcAL => exact h_aluReg .sbc .l
  | sbcAIndHL => exact h_aluInd .sbc
  | sbcAA => exact h_aluReg .sbc .a
  | andAB => exact h_aluReg .and .b
  | andAC => exact h_aluReg .and .c
  | andAD => exact h_aluReg .and .d
  | andAE => exact h_aluReg .and .e
  | andAH => exact h_aluReg .and .h
  | andAL => exact h_aluReg .and .l
  | andAIndHL => exact h_aluInd .and
  | andAA => exact h_aluReg .and .a
  | xorAB => exact h_aluReg .xor .b
  | xorAC => exact h_aluReg .xor .c
  | xorAD => exact h_aluReg .xor .d
  | xorAE => exact h_aluReg .xor .e
  | xorAH => exact h_aluReg .xor .h
  | xorAL => exact h_aluReg .xor .l
  | xorAIndHL => exact h_aluInd .xor
  | xorAA => exact h_aluReg .xor .a
  | orAB => exact h_aluReg .or .b
  | orAC => exact h_aluReg .or .c
  | orAD => exact h_aluReg .or .d
  | orAE => exact h_aluReg .or .e
  | orAH => exact h_aluReg .or .h
  | orAL => exact h_aluReg .or .l
  | orAIndHL => exact h_aluInd .or
  | orAA => exact h_aluReg .or .a
  | cpAB => exact h_aluReg .cp .b
  | cpAC => exact h_aluReg .cp .c
  | cpAD => exact h_aluReg .cp .d
  | cpAE => exact h_aluReg .cp .e
  | cpAH => exact h_aluReg .cp .h
  | cpAL => exact h_aluReg .cp .l
  | cpAIndHL => exact h_aluInd .cp
  | cpAA => exact h_aluReg .cp .a
  | retNZ => exact h_retCond .nz
  | popBC => exact h_popPair .bc
  | jpNZA16 w => exact h_jpCond .nz w
  | jpA16 w => exact h_jpA16 w
  | callNZA16 w => exact h_callCond .nz w
  | pushBC => exact h_pushPair .bc
  | addAD8 n => exact h_aluImm .add n
  | rst00 => exact h_rst 0
  | retZ => exact h_retCond .z
  | ret => exact h_ret
  | jpZA16 w => exact h_jpCond .z w
  | callZA16 w => exact h_callCond .z w
  | callA16 w => exact h_callA16 w
  | adcAD8 n => exact h_aluImm .adc n
  | rst08 => exact h_rst 1
  | retNC => exact h_retCond .nc
  | popDE => exact h_popPair .de
  | jpNCA16 w => exact h_jpCond .nc w
  | callNCA16 w => exact h_callCond .nc w
  | pushDE => exact h_pushPair .de
  | subAD8 n => exact h_aluImm .sub n
  | rst10 => exact h_rst 2
  | retC => exact h_retCond .c
  | reti => exact h_reti
  | jpCA16 w => exact h_jpCond .c w
  | callCA16 w => exact h_callCond .c w
  | sbcAD8 n => exact h_aluImm .sbc n
  | rst18 => exact h_rst 3
  | ldhIndA8A n => exact h_ldhIndA8A n
  | popHL => exact h_popPair .hl
  | ldIndCA => exact h_ldIndCA
  | pushHL => exact h_pushPair .hl
  | andAD8 n => exact h_aluImm .and n
  | rst20 => exact h_rst 4
  | addSPE8 e => exact h_addSPE8 e
  | jpHL => exact h_jpHL
  | ldIndA16A w => exact h_ldIndA16A w
  | xorAD8 n => exact h_aluImm .xor n
  | rst28 => exact h_rst 5
  | ldhAIndA8 n => exact h_ldhAIndA8 n
  | popAF => exact h_popPair .af
  | ldAIndC => exact h_ldAIndC
  | di => exact h_di
  | pushAF => exact h_pushPair .af
  | orAD8 n => exact h_aluImm .or n
  | rst30 => exact h_rst 6
  | ldHLSPE8 e => exact h_ldHLSPE8 e
  | ldSPHL => exact h_ldSPHL
  | ldAIndA16 w => exact h_ldAIndA16 w
  | ei => exact h_ei
  | cpAD8 n => exact h_aluImm .cp n
  | rst38 => exact h_rst 7
  | rlcB => exact h_rotReg .rlc .b
  | rlcC => exact h_rotReg .rlc .c
  | rlcD => exact h_rotReg .rlc .d
  | rlcE => exact h_rotReg .rlc .e
  | rlcH => exact h_rotReg .rlc .h
  | rlcL => exact h_rotReg .rlc .l
  | rlcIndHL => exact h_rotInd .rlc
  | rlcA => exact h_rotReg .rlc .a
  | rrcB => exact h_rotReg .rrc .b
  | rrcC => exact h_rotReg .rrc .c
  | rrcD => exact h_rotReg .rrc .d
  | rrcE => exact h_rotReg .rrc .e
  | rrcH => exact h_rotReg .rrc .h
  | rrcL => exact h_rotReg .rrc .l
  | rrcIndHL => exact h_rotInd .rrc
  | rrcA => exact h_rotReg .rrc .a
  | rlB => exact h_rotReg .rl .b
  | rlC => exact h_rotReg .rl .c
  | rlD => exact h_rotReg .rl .d
  | rlE => exact h_rotReg .rl .e
  | rlH => exact h_rotReg .rl .h
  | rlL => exact h_rotReg .rl .l
  | rlIndHL => exact h_rotInd .rl
  | rlA => exact h_rotReg .rl .a
  | rrB => exact h_rotReg .rr .b
  | rrC => exact h_rotReg .rr .c
  | rrD => exact h_rotReg .rr .d
  | rrE => exact h_rotReg .rr .e
  | rrH => exact h_rotReg .rr .h
  | rrL => exact h_rotReg .rr .l
  | rrIndHL => exact h_rotInd .rr
  | rrA => exact h_rotReg .rr .a
  | slaB => exact h_rotReg .sla .b
  | slaC => exact h_rotReg .sla .c
  | slaD => exact h_rotReg .sla .d
  | slaE => exact h_rotReg .sla .e
  | slaH => exact h_rotReg .sla .h
  | slaL => exact h_rotReg .sla .l
  | slaIndHL => exact h_rotInd .sla
  | slaA => exact h_rotReg .sla .a
  | sraB => exact h_rotReg .sra .b
  | sraC => exact h_rotReg .sra .c
  | sraD => exact h_rotReg .sra .d
  | sraE => exact h_rotReg .sra .e
  | sraH => exact h_rotReg .sra .h
  | sraL => exact h_rotReg .sra .l
  | sraIndHL => exact h_rotInd .sra
  | sraA => exact h_rotReg .sra .a
  | swapB => exact h_rotReg .swap .b
  | swapC => exact h_rotReg .swap .c
  | swapD => exact h_rotReg .swap .d
  | swapE => exact h_rotReg .swap .e
  | swapH => exact h_rotReg .swap .h
  | swapL => exact h_rotReg .swap .l
  | swapIndHL => exact h_rotInd .swap
  | swapA => exact h_rotReg .swap .a
  | srlB => exact h_rotReg .srl .b
  | srlC => exact h_rotReg .srl .c
  | srlD => exact h_rotReg .srl .d
  | srlE => exact h_rotReg .srl .e
  | srlH => exact h_rotReg .srl .h
  | srlL => exact h_rotReg .srl .l
  | srlIndHL => exact h_rotInd .srl
  | srlA => exact h_rotReg .srl .a
  | bit0B => exact h_bitReg 0 .b
  | bit0C => exact h_bitReg 0 .c
  | bit0D => exact h_bitReg 0 .d
  | bit0E => exact h_bitReg 0 .e
  | bit0H => exact h_bitReg 0 .h
  | bit0L => exact h_bitReg 0 .l
  | bit0IndHL => exact h_bitInd 0
  | bit0A => exact h_bitReg 0 .a
  | bit1B => exact h_bitReg 1 .b
  | bit1C => exact h_bitReg 1 .c
  | bit1D => exact h_bitReg 1 .d
  | bit1E => exact h_bitReg 1 .e
  | bit1H => exact h_bitReg 1 .h
  | bit1L => exact h_bitReg 1 .l
  | bit1IndHL => exact h_bitInd 1
  | bit1A => exact h_bitReg 1 .a
  | bit2B => exact h_bitReg 2 .b
  | bit2C => exact h_bitReg 2 .c
  | bit2D => exact h_bitReg 2 .d
  | bit2E => exact h_bitReg 2 .e
  | bit2H => exact h_bitReg 2 .h
  | bit2L => exact h_bitReg 2 .l
  | bit2IndHL => exact h_bitInd 2
  | bit2A => exact h_bitReg 2 .a
  | bit3B => exact h_bitReg 3 .b
  | bit3C => exact h_bitReg 3 .c
  | bit3D => exact h_bitReg 3 .d
  | bit3E => exact h_bitReg 3 .e
  | bit3H => exact h_bitReg 3 .h
  | bit3L => exact h_bitReg 3 .l
  | bit3IndHL => exact h_bitInd 3
  | bit3A => exact h_bitReg 3 .a
  | bit4B => exact h_bitReg 4 .b
  | bit4C => exact h_bitReg 4 .c
  | bit4D => exact h_bitReg 4 .d
  | bit4E => exact h_bitReg 4 .e
  | bit4H => exact h_bitReg 4 .h
  | bit4L => exact h_bitReg 4 .l
  | bit4IndHL => exact h_bitInd 4
  | bit4A => exact h_bitReg 4 .a
  | bit5B => exact h_bitReg 5 .b
  | bit5C => exact h_bitReg 5 .c
  | bit5D => exact h_bitReg 5 .d
  | bit5E => exact h_bitReg 5 .e
  | bit5H => exact h_bitReg 5 .h
  | bit5L => exact h_bitReg 5 .l
  | bit5IndHL => exact h_bitInd 5
  | bit5A => exact h_bitReg 5 .a
  | bit6B => exact h_bitReg 6 .b
  | bit6C => exact h_bitReg 6 .c
  | bit6D => exact h_bitReg 6 .d
  | bit6E => exact h_bitReg 6 .e
  | bit6H => exact h_bitReg 6 .h
  | bit6L => exact h_bitReg 6 .l
  | bit6IndHL => exact h_bitInd 6
  | bit6A => exact h_bitReg 6 .a
  | bit7B => exact h_bitReg 7 .b
  | bit7C => exact h_bitReg 7 .c
  | bit7D => exact h_bitReg 7 .d
  | bit7E => exact h_bitReg 7 .e
  | bit7H => exact h_bitReg 7 .h
  | bit7L => exact h_bitReg 7 .l
  | bit7IndHL => exact h_bitInd 7
  | bit7A => exact h_bitReg 7 .a
  | res0B => exact h_resReg 0 .b
  | res0C => exact h_resReg 0 .c
  | res0D => exact h_resReg 0 .d
  | res0E => exact h_resReg 0 .e
  | res0H => exact h_resReg 0 .h
  | res0L => exact h_resReg 0 .l
  | res0IndHL => exact h_resInd 0
  | res0A => exact h_resReg 0 .a
  | res1B => exact h_resReg 1 .b
  | res1C => exact h_resReg 1 .c
  | res1D => exact h_resReg 1 .d
  | res1E => exact h_resReg 1 .e
  | res1H => exact h_resReg 1 .h
  | res1L => exact h_resReg 1 .l
  | res1IndHL => exact h_resInd 1
  | res1A => exact h_resReg 1 .a
  | res2B => exact h_resReg 2 .b
  | res2C => exact h_resReg 2 .c
  | res2D => exact h_resReg 2 .d
  | res2E => exact h_resReg 2 .e
  | res2H => exact h_resReg 2 .h
  | res2L => exact h_resReg 2 .l
  | res2IndHL => exact h_resInd 2
  | res2A => exact h_resReg 2 .a
  | res3B => exact h_resReg 3 .b
  | res3C => exact h_resReg 3 .c
  | res3D => exact h_resReg 3 .d
  | res3E => exact h_resReg 3 .e
  | res3H => exact h_resReg 3 .h
  | res3L => exact h_resReg 3 .l
  | res3IndHL => exact h_resInd 3
  | res3A => exact h_resReg 3 .a
  | res4B => exact h_resReg 4 .b
  | res4C => exact h_resReg 4 .c
  | res4D => exact h_resReg 4 .d
  | res4E => exact h_resReg 4 .e
  | res4H => exact h_resReg 4 .h
  | res4L => exact h_resReg 4 .l
  | res4IndHL => exact h_resInd 4
  | res4A => exact h_resReg 4 .a
  | res5B => exact h_resReg 5 .b
  | res5C => exact h_resReg 5 .c
  | res5D => exact h_resReg 5 .d
  | res5E => exact h_resReg 5 .e
  | res5H => exact h_resReg 5 .h
  | res5L => exact h_resReg 5 .l
  | res5IndHL => exact h_resInd 5
  | res5A => exact h_resReg 5 .a
  | res6B => exact h_resReg 6 .b
  | res6C => exact h_resReg 6 .c
  | res6D => exact h_resReg 6 .d
  | res6E => exact h_resReg 6 .e
  | res6H => exact h_resReg 6 .h
  | res6L => exact h_resReg 6 .l
  | res6IndHL => exact h_resInd 6
  | res6A => exact h_resReg 6 .a
  | res7B => exact h_resReg 7 .b
  | res7C => exact h_resReg 7 .c
  | res7D => exact h_resReg 7 .d
  | res7E => exact h_resReg 7 .e
  | res7H => exact h_resReg 7 .h
  | res7L => exact h_resReg 7 .l
  | res7IndHL => exact h_resInd 7
  | res7A => exact h_resReg 7 .a
  | set0B => exact h_setReg 0 .b
  | set0C => exact h_setReg 0 .c
  | set0D => exact h_setReg 0 .d
  | set0E => exact h_setReg 0 .e
  | set0H => exact h_setReg 0 .h
  | set0L => exact h_setReg 0 .l
  | set0IndHL => exact h_setInd 0
  | set0A => exact h_setReg 0 .a
  | set1B => exact h_setReg 1 .b
  | set1C => exact h_setReg 1 .c
  | set1D => exact h_setReg 1 .d
  | set1E => exact h_setReg 1 .e
  | set1H => exact h_setReg 1 .h
  | set1L => exact h_setReg 1 .l
  | set1IndHL => exact h_setInd 1
  | set1A => exact h_setReg 1 .a
  | set2B => exact h_setReg 2 .b
  | set2C => exact h_setReg 2 .c
  | set2D => exact h_setReg 2 .d
  | set2E => exact h_setReg 2 .e
  | set2H => exact h_setReg 2 .h
  | set2L => exact h_setReg 2 .l
  | set2IndHL => exact h_setInd 2
  | set2A => exact h_setReg 2 .a
  | set3B => exact h_setReg 3 .b
  | set3C => exact h_setReg 3 .c
  | set3D => exact h_setReg 3 .d
  | set3E => exact h_setReg 3 .e
  | set3H => exact h_setReg 3 .h
  | set3L => exact h_setReg 3 .l
  | set3IndHL => exact h_setInd 3
  | set3A => exact h_setReg 3 .a
  | set4B => exact h_setReg 4 .b
  | set4C => exact h_setReg 4 .c
  | set4D => exact h_setReg 4 .d
  | set4E => exact h_setReg 4 .e
  | set4H => exact h_setReg 4 .h
  | set4L => exact h_setReg 4 .l
  | set4IndHL => exact h_setInd 4
  | set4A => exact h_setReg 4 .a
  | set5B => exact h_setReg 5 .b
  | set5C => exact h_setReg 5 .c
  | set5D => exact h_setReg 5 .d
  | set5E => exact h_setReg 5 .e
  | set5H => exact h_setReg 5 .h
  | set5L => exact h_setReg 5 .l
  | set5IndHL => exact h_setInd 5
  | set5A => exact h_setReg 5 .a
  | set6B => exact h_setReg 6 .b
  | set6C => exact h_setReg 6 .c
  | set6D => exact h_setReg 6 .d
  | set6E => exact h_setReg 6 .e
  | set6H => exact h_setReg 6 .h
  | set6L => exact h_setReg 6 .l
  | set6IndHL => exact h_setInd 6
  | set6A => exact h_setReg 6 .a
  | set7B => exact h_setReg 7 .b
  | set7C => exact h_setReg 7 .c
  | set7D => exact h_setReg 7 .d
  | set7E => exact h_setReg 7 .e
  | set7H => exact h_setReg 7 .h
  | set7L => exact h_setReg 7 .l
  | set7IndHL => exact h_setInd 7
  | set7A => exact h_setReg 7 .a
  | unmappedD3 => exact h_unmappedD3
  | unmappedDB => exact h_unmappedDB
  | unmappedDD => exact h_unmappedDD
  | unmappedE3 => exact h_unmappedE3
  | unmappedE4 => exact h_unmappedE4
  | unmappedEB => exact h_unmappedEB
  | unmappedEC => exact h_unmappedEC
  | unmappedED => exact h_unmappedED
  | unmappedF4 => exact h_unmappedF4
  | unmappedFC => exact h_unmappedFC
  | unmappedFD => exact h_unmappedFD

end Sys2Proof.Machine
end

