-- ==== Sys2Proof/Laws/State.lean ====
section
/-! SUPPORT. One lemma per field per update of the state, and the byte views and flags after each update
(spec/10_state.md rule R21 to rule R25). With these no later proof unfolds a record update. -/

namespace Sys2Proof.Machine

/-! ### Fields after a write of a slot or half -/

@[simp] theorem State.setA_af (s : State) (v : Byte) : (s.setA v).af = joinBytes v (loByte s.af) := rfl
@[simp] theorem State.setA_bc (s : State) (v : Byte) : (s.setA v).bc = s.bc := rfl
@[simp] theorem State.setA_de (s : State) (v : Byte) : (s.setA v).de = s.de := rfl
@[simp] theorem State.setA_hl (s : State) (v : Byte) : (s.setA v).hl = s.hl := rfl
@[simp] theorem State.setA_sp (s : State) (v : Byte) : (s.setA v).sp = s.sp := rfl
@[simp] theorem State.setA_pc (s : State) (v : Byte) : (s.setA v).pc = s.pc := rfl
@[simp] theorem State.setA_counter (s : State) (v : Byte) : (s.setA v).counter = s.counter := rfl
@[simp] theorem State.setA_halted (s : State) (v : Byte) : (s.setA v).halted = s.halted := rfl
@[simp] theorem State.setA_fault (s : State) (v : Byte) : (s.setA v).fault = s.fault := rfl
@[simp] theorem State.setA_boot (s : State) (v : Byte) : (s.setA v).boot = s.boot := rfl
@[simp] theorem State.setA_vram (s : State) (v : Byte) : (s.setA v).vram = s.vram := rfl
@[simp] theorem State.setA_params (s : State) (v : Byte) : (s.setA v).params = s.params := rfl
@[simp] theorem State.setA_hostWrites (s : State) (v : Byte) : (s.setA v).hostWrites = s.hostWrites := rfl

@[simp] theorem State.setF_af (s : State) (v : Byte) : (s.setF v).af = joinBytes (hiByte s.af) (v &&& 0xF0) := rfl
@[simp] theorem State.setF_bc (s : State) (v : Byte) : (s.setF v).bc = s.bc := rfl
@[simp] theorem State.setF_de (s : State) (v : Byte) : (s.setF v).de = s.de := rfl
@[simp] theorem State.setF_hl (s : State) (v : Byte) : (s.setF v).hl = s.hl := rfl
@[simp] theorem State.setF_sp (s : State) (v : Byte) : (s.setF v).sp = s.sp := rfl
@[simp] theorem State.setF_pc (s : State) (v : Byte) : (s.setF v).pc = s.pc := rfl
@[simp] theorem State.setF_counter (s : State) (v : Byte) : (s.setF v).counter = s.counter := rfl
@[simp] theorem State.setF_halted (s : State) (v : Byte) : (s.setF v).halted = s.halted := rfl
@[simp] theorem State.setF_fault (s : State) (v : Byte) : (s.setF v).fault = s.fault := rfl
@[simp] theorem State.setF_boot (s : State) (v : Byte) : (s.setF v).boot = s.boot := rfl
@[simp] theorem State.setF_vram (s : State) (v : Byte) : (s.setF v).vram = s.vram := rfl
@[simp] theorem State.setF_params (s : State) (v : Byte) : (s.setF v).params = s.params := rfl
@[simp] theorem State.setF_hostWrites (s : State) (v : Byte) : (s.setF v).hostWrites = s.hostWrites := rfl

@[simp] theorem State.setB_af (s : State) (v : Byte) : (s.setB v).af = s.af := rfl
@[simp] theorem State.setB_bc (s : State) (v : Byte) : (s.setB v).bc = joinBytes v (loByte s.bc) := rfl
@[simp] theorem State.setB_de (s : State) (v : Byte) : (s.setB v).de = s.de := rfl
@[simp] theorem State.setB_hl (s : State) (v : Byte) : (s.setB v).hl = s.hl := rfl
@[simp] theorem State.setB_sp (s : State) (v : Byte) : (s.setB v).sp = s.sp := rfl
@[simp] theorem State.setB_pc (s : State) (v : Byte) : (s.setB v).pc = s.pc := rfl
@[simp] theorem State.setB_counter (s : State) (v : Byte) : (s.setB v).counter = s.counter := rfl
@[simp] theorem State.setB_halted (s : State) (v : Byte) : (s.setB v).halted = s.halted := rfl
@[simp] theorem State.setB_fault (s : State) (v : Byte) : (s.setB v).fault = s.fault := rfl
@[simp] theorem State.setB_boot (s : State) (v : Byte) : (s.setB v).boot = s.boot := rfl
@[simp] theorem State.setB_vram (s : State) (v : Byte) : (s.setB v).vram = s.vram := rfl
@[simp] theorem State.setB_params (s : State) (v : Byte) : (s.setB v).params = s.params := rfl
@[simp] theorem State.setB_hostWrites (s : State) (v : Byte) : (s.setB v).hostWrites = s.hostWrites := rfl

@[simp] theorem State.setC_af (s : State) (v : Byte) : (s.setC v).af = s.af := rfl
@[simp] theorem State.setC_bc (s : State) (v : Byte) : (s.setC v).bc = joinBytes (hiByte s.bc) v := rfl
@[simp] theorem State.setC_de (s : State) (v : Byte) : (s.setC v).de = s.de := rfl
@[simp] theorem State.setC_hl (s : State) (v : Byte) : (s.setC v).hl = s.hl := rfl
@[simp] theorem State.setC_sp (s : State) (v : Byte) : (s.setC v).sp = s.sp := rfl
@[simp] theorem State.setC_pc (s : State) (v : Byte) : (s.setC v).pc = s.pc := rfl
@[simp] theorem State.setC_counter (s : State) (v : Byte) : (s.setC v).counter = s.counter := rfl
@[simp] theorem State.setC_halted (s : State) (v : Byte) : (s.setC v).halted = s.halted := rfl
@[simp] theorem State.setC_fault (s : State) (v : Byte) : (s.setC v).fault = s.fault := rfl
@[simp] theorem State.setC_boot (s : State) (v : Byte) : (s.setC v).boot = s.boot := rfl
@[simp] theorem State.setC_vram (s : State) (v : Byte) : (s.setC v).vram = s.vram := rfl
@[simp] theorem State.setC_params (s : State) (v : Byte) : (s.setC v).params = s.params := rfl
@[simp] theorem State.setC_hostWrites (s : State) (v : Byte) : (s.setC v).hostWrites = s.hostWrites := rfl

@[simp] theorem State.setD_af (s : State) (v : Byte) : (s.setD v).af = s.af := rfl
@[simp] theorem State.setD_bc (s : State) (v : Byte) : (s.setD v).bc = s.bc := rfl
@[simp] theorem State.setD_de (s : State) (v : Byte) : (s.setD v).de = joinBytes v (loByte s.de) := rfl
@[simp] theorem State.setD_hl (s : State) (v : Byte) : (s.setD v).hl = s.hl := rfl
@[simp] theorem State.setD_sp (s : State) (v : Byte) : (s.setD v).sp = s.sp := rfl
@[simp] theorem State.setD_pc (s : State) (v : Byte) : (s.setD v).pc = s.pc := rfl
@[simp] theorem State.setD_counter (s : State) (v : Byte) : (s.setD v).counter = s.counter := rfl
@[simp] theorem State.setD_halted (s : State) (v : Byte) : (s.setD v).halted = s.halted := rfl
@[simp] theorem State.setD_fault (s : State) (v : Byte) : (s.setD v).fault = s.fault := rfl
@[simp] theorem State.setD_boot (s : State) (v : Byte) : (s.setD v).boot = s.boot := rfl
@[simp] theorem State.setD_vram (s : State) (v : Byte) : (s.setD v).vram = s.vram := rfl
@[simp] theorem State.setD_params (s : State) (v : Byte) : (s.setD v).params = s.params := rfl
@[simp] theorem State.setD_hostWrites (s : State) (v : Byte) : (s.setD v).hostWrites = s.hostWrites := rfl

@[simp] theorem State.setE_af (s : State) (v : Byte) : (s.setE v).af = s.af := rfl
@[simp] theorem State.setE_bc (s : State) (v : Byte) : (s.setE v).bc = s.bc := rfl
@[simp] theorem State.setE_de (s : State) (v : Byte) : (s.setE v).de = joinBytes (hiByte s.de) v := rfl
@[simp] theorem State.setE_hl (s : State) (v : Byte) : (s.setE v).hl = s.hl := rfl
@[simp] theorem State.setE_sp (s : State) (v : Byte) : (s.setE v).sp = s.sp := rfl
@[simp] theorem State.setE_pc (s : State) (v : Byte) : (s.setE v).pc = s.pc := rfl
@[simp] theorem State.setE_counter (s : State) (v : Byte) : (s.setE v).counter = s.counter := rfl
@[simp] theorem State.setE_halted (s : State) (v : Byte) : (s.setE v).halted = s.halted := rfl
@[simp] theorem State.setE_fault (s : State) (v : Byte) : (s.setE v).fault = s.fault := rfl
@[simp] theorem State.setE_boot (s : State) (v : Byte) : (s.setE v).boot = s.boot := rfl
@[simp] theorem State.setE_vram (s : State) (v : Byte) : (s.setE v).vram = s.vram := rfl
@[simp] theorem State.setE_params (s : State) (v : Byte) : (s.setE v).params = s.params := rfl
@[simp] theorem State.setE_hostWrites (s : State) (v : Byte) : (s.setE v).hostWrites = s.hostWrites := rfl

@[simp] theorem State.setH_af (s : State) (v : Byte) : (s.setH v).af = s.af := rfl
@[simp] theorem State.setH_bc (s : State) (v : Byte) : (s.setH v).bc = s.bc := rfl
@[simp] theorem State.setH_de (s : State) (v : Byte) : (s.setH v).de = s.de := rfl
@[simp] theorem State.setH_hl (s : State) (v : Byte) : (s.setH v).hl = joinBytes v (loByte s.hl) := rfl
@[simp] theorem State.setH_sp (s : State) (v : Byte) : (s.setH v).sp = s.sp := rfl
@[simp] theorem State.setH_pc (s : State) (v : Byte) : (s.setH v).pc = s.pc := rfl
@[simp] theorem State.setH_counter (s : State) (v : Byte) : (s.setH v).counter = s.counter := rfl
@[simp] theorem State.setH_halted (s : State) (v : Byte) : (s.setH v).halted = s.halted := rfl
@[simp] theorem State.setH_fault (s : State) (v : Byte) : (s.setH v).fault = s.fault := rfl
@[simp] theorem State.setH_boot (s : State) (v : Byte) : (s.setH v).boot = s.boot := rfl
@[simp] theorem State.setH_vram (s : State) (v : Byte) : (s.setH v).vram = s.vram := rfl
@[simp] theorem State.setH_params (s : State) (v : Byte) : (s.setH v).params = s.params := rfl
@[simp] theorem State.setH_hostWrites (s : State) (v : Byte) : (s.setH v).hostWrites = s.hostWrites := rfl

@[simp] theorem State.setL_af (s : State) (v : Byte) : (s.setL v).af = s.af := rfl
@[simp] theorem State.setL_bc (s : State) (v : Byte) : (s.setL v).bc = s.bc := rfl
@[simp] theorem State.setL_de (s : State) (v : Byte) : (s.setL v).de = s.de := rfl
@[simp] theorem State.setL_hl (s : State) (v : Byte) : (s.setL v).hl = joinBytes (hiByte s.hl) v := rfl
@[simp] theorem State.setL_sp (s : State) (v : Byte) : (s.setL v).sp = s.sp := rfl
@[simp] theorem State.setL_pc (s : State) (v : Byte) : (s.setL v).pc = s.pc := rfl
@[simp] theorem State.setL_counter (s : State) (v : Byte) : (s.setL v).counter = s.counter := rfl
@[simp] theorem State.setL_halted (s : State) (v : Byte) : (s.setL v).halted = s.halted := rfl
@[simp] theorem State.setL_fault (s : State) (v : Byte) : (s.setL v).fault = s.fault := rfl
@[simp] theorem State.setL_boot (s : State) (v : Byte) : (s.setL v).boot = s.boot := rfl
@[simp] theorem State.setL_vram (s : State) (v : Byte) : (s.setL v).vram = s.vram := rfl
@[simp] theorem State.setL_params (s : State) (v : Byte) : (s.setL v).params = s.params := rfl
@[simp] theorem State.setL_hostWrites (s : State) (v : Byte) : (s.setL v).hostWrites = s.hostWrites := rfl

@[simp] theorem State.setAF_af (s : State) (v : Word) : (s.setAF v).af = v &&& 0xFFF0 := rfl
@[simp] theorem State.setAF_bc (s : State) (v : Word) : (s.setAF v).bc = s.bc := rfl
@[simp] theorem State.setAF_de (s : State) (v : Word) : (s.setAF v).de = s.de := rfl
@[simp] theorem State.setAF_hl (s : State) (v : Word) : (s.setAF v).hl = s.hl := rfl
@[simp] theorem State.setAF_sp (s : State) (v : Word) : (s.setAF v).sp = s.sp := rfl
@[simp] theorem State.setAF_pc (s : State) (v : Word) : (s.setAF v).pc = s.pc := rfl
@[simp] theorem State.setAF_counter (s : State) (v : Word) : (s.setAF v).counter = s.counter := rfl
@[simp] theorem State.setAF_halted (s : State) (v : Word) : (s.setAF v).halted = s.halted := rfl
@[simp] theorem State.setAF_fault (s : State) (v : Word) : (s.setAF v).fault = s.fault := rfl
@[simp] theorem State.setAF_boot (s : State) (v : Word) : (s.setAF v).boot = s.boot := rfl
@[simp] theorem State.setAF_vram (s : State) (v : Word) : (s.setAF v).vram = s.vram := rfl
@[simp] theorem State.setAF_params (s : State) (v : Word) : (s.setAF v).params = s.params := rfl
@[simp] theorem State.setAF_hostWrites (s : State) (v : Word) : (s.setAF v).hostWrites = s.hostWrites := rfl

@[simp] theorem State.setBC_af (s : State) (v : Word) : (s.setBC v).af = s.af := rfl
@[simp] theorem State.setBC_bc (s : State) (v : Word) : (s.setBC v).bc = v := rfl
@[simp] theorem State.setBC_de (s : State) (v : Word) : (s.setBC v).de = s.de := rfl
@[simp] theorem State.setBC_hl (s : State) (v : Word) : (s.setBC v).hl = s.hl := rfl
@[simp] theorem State.setBC_sp (s : State) (v : Word) : (s.setBC v).sp = s.sp := rfl
@[simp] theorem State.setBC_pc (s : State) (v : Word) : (s.setBC v).pc = s.pc := rfl
@[simp] theorem State.setBC_counter (s : State) (v : Word) : (s.setBC v).counter = s.counter := rfl
@[simp] theorem State.setBC_halted (s : State) (v : Word) : (s.setBC v).halted = s.halted := rfl
@[simp] theorem State.setBC_fault (s : State) (v : Word) : (s.setBC v).fault = s.fault := rfl
@[simp] theorem State.setBC_boot (s : State) (v : Word) : (s.setBC v).boot = s.boot := rfl
@[simp] theorem State.setBC_vram (s : State) (v : Word) : (s.setBC v).vram = s.vram := rfl
@[simp] theorem State.setBC_params (s : State) (v : Word) : (s.setBC v).params = s.params := rfl
@[simp] theorem State.setBC_hostWrites (s : State) (v : Word) : (s.setBC v).hostWrites = s.hostWrites := rfl

@[simp] theorem State.setDE_af (s : State) (v : Word) : (s.setDE v).af = s.af := rfl
@[simp] theorem State.setDE_bc (s : State) (v : Word) : (s.setDE v).bc = s.bc := rfl
@[simp] theorem State.setDE_de (s : State) (v : Word) : (s.setDE v).de = v := rfl
@[simp] theorem State.setDE_hl (s : State) (v : Word) : (s.setDE v).hl = s.hl := rfl
@[simp] theorem State.setDE_sp (s : State) (v : Word) : (s.setDE v).sp = s.sp := rfl
@[simp] theorem State.setDE_pc (s : State) (v : Word) : (s.setDE v).pc = s.pc := rfl
@[simp] theorem State.setDE_counter (s : State) (v : Word) : (s.setDE v).counter = s.counter := rfl
@[simp] theorem State.setDE_halted (s : State) (v : Word) : (s.setDE v).halted = s.halted := rfl
@[simp] theorem State.setDE_fault (s : State) (v : Word) : (s.setDE v).fault = s.fault := rfl
@[simp] theorem State.setDE_boot (s : State) (v : Word) : (s.setDE v).boot = s.boot := rfl
@[simp] theorem State.setDE_vram (s : State) (v : Word) : (s.setDE v).vram = s.vram := rfl
@[simp] theorem State.setDE_params (s : State) (v : Word) : (s.setDE v).params = s.params := rfl
@[simp] theorem State.setDE_hostWrites (s : State) (v : Word) : (s.setDE v).hostWrites = s.hostWrites := rfl

@[simp] theorem State.setHL_af (s : State) (v : Word) : (s.setHL v).af = s.af := rfl
@[simp] theorem State.setHL_bc (s : State) (v : Word) : (s.setHL v).bc = s.bc := rfl
@[simp] theorem State.setHL_de (s : State) (v : Word) : (s.setHL v).de = s.de := rfl
@[simp] theorem State.setHL_hl (s : State) (v : Word) : (s.setHL v).hl = v := rfl
@[simp] theorem State.setHL_sp (s : State) (v : Word) : (s.setHL v).sp = s.sp := rfl
@[simp] theorem State.setHL_pc (s : State) (v : Word) : (s.setHL v).pc = s.pc := rfl
@[simp] theorem State.setHL_counter (s : State) (v : Word) : (s.setHL v).counter = s.counter := rfl
@[simp] theorem State.setHL_halted (s : State) (v : Word) : (s.setHL v).halted = s.halted := rfl
@[simp] theorem State.setHL_fault (s : State) (v : Word) : (s.setHL v).fault = s.fault := rfl
@[simp] theorem State.setHL_boot (s : State) (v : Word) : (s.setHL v).boot = s.boot := rfl
@[simp] theorem State.setHL_vram (s : State) (v : Word) : (s.setHL v).vram = s.vram := rfl
@[simp] theorem State.setHL_params (s : State) (v : Word) : (s.setHL v).params = s.params := rfl
@[simp] theorem State.setHL_hostWrites (s : State) (v : Word) : (s.setHL v).hostWrites = s.hostWrites := rfl

@[simp] theorem State.setSP_af (s : State) (v : Word) : (s.setSP v).af = s.af := rfl
@[simp] theorem State.setSP_bc (s : State) (v : Word) : (s.setSP v).bc = s.bc := rfl
@[simp] theorem State.setSP_de (s : State) (v : Word) : (s.setSP v).de = s.de := rfl
@[simp] theorem State.setSP_hl (s : State) (v : Word) : (s.setSP v).hl = s.hl := rfl
@[simp] theorem State.setSP_sp (s : State) (v : Word) : (s.setSP v).sp = v := rfl
@[simp] theorem State.setSP_pc (s : State) (v : Word) : (s.setSP v).pc = s.pc := rfl
@[simp] theorem State.setSP_counter (s : State) (v : Word) : (s.setSP v).counter = s.counter := rfl
@[simp] theorem State.setSP_halted (s : State) (v : Word) : (s.setSP v).halted = s.halted := rfl
@[simp] theorem State.setSP_fault (s : State) (v : Word) : (s.setSP v).fault = s.fault := rfl
@[simp] theorem State.setSP_boot (s : State) (v : Word) : (s.setSP v).boot = s.boot := rfl
@[simp] theorem State.setSP_vram (s : State) (v : Word) : (s.setSP v).vram = s.vram := rfl
@[simp] theorem State.setSP_params (s : State) (v : Word) : (s.setSP v).params = s.params := rfl
@[simp] theorem State.setSP_hostWrites (s : State) (v : Word) : (s.setSP v).hostWrites = s.hostWrites := rfl

@[simp] theorem State.setPC_af (s : State) (v : Word) : (s.setPC v).af = s.af := rfl
@[simp] theorem State.setPC_bc (s : State) (v : Word) : (s.setPC v).bc = s.bc := rfl
@[simp] theorem State.setPC_de (s : State) (v : Word) : (s.setPC v).de = s.de := rfl
@[simp] theorem State.setPC_hl (s : State) (v : Word) : (s.setPC v).hl = s.hl := rfl
@[simp] theorem State.setPC_sp (s : State) (v : Word) : (s.setPC v).sp = s.sp := rfl
@[simp] theorem State.setPC_pc (s : State) (v : Word) : (s.setPC v).pc = v := rfl
@[simp] theorem State.setPC_counter (s : State) (v : Word) : (s.setPC v).counter = s.counter := rfl
@[simp] theorem State.setPC_halted (s : State) (v : Word) : (s.setPC v).halted = s.halted := rfl
@[simp] theorem State.setPC_fault (s : State) (v : Word) : (s.setPC v).fault = s.fault := rfl
@[simp] theorem State.setPC_boot (s : State) (v : Word) : (s.setPC v).boot = s.boot := rfl
@[simp] theorem State.setPC_vram (s : State) (v : Word) : (s.setPC v).vram = s.vram := rfl
@[simp] theorem State.setPC_params (s : State) (v : Word) : (s.setPC v).params = s.params := rfl
@[simp] theorem State.setPC_hostWrites (s : State) (v : Word) : (s.setPC v).hostWrites = s.hostWrites := rfl

@[simp] theorem State.setFlags_af (s : State) (fl : Flags) : (s.setFlags fl).af = joinBytes (hiByte s.af) (fl.toByte &&& 0xF0) := rfl
@[simp] theorem State.setFlags_bc (s : State) (fl : Flags) : (s.setFlags fl).bc = s.bc := rfl
@[simp] theorem State.setFlags_de (s : State) (fl : Flags) : (s.setFlags fl).de = s.de := rfl
@[simp] theorem State.setFlags_hl (s : State) (fl : Flags) : (s.setFlags fl).hl = s.hl := rfl
@[simp] theorem State.setFlags_sp (s : State) (fl : Flags) : (s.setFlags fl).sp = s.sp := rfl
@[simp] theorem State.setFlags_pc (s : State) (fl : Flags) : (s.setFlags fl).pc = s.pc := rfl
@[simp] theorem State.setFlags_counter (s : State) (fl : Flags) : (s.setFlags fl).counter = s.counter := rfl
@[simp] theorem State.setFlags_halted (s : State) (fl : Flags) : (s.setFlags fl).halted = s.halted := rfl
@[simp] theorem State.setFlags_fault (s : State) (fl : Flags) : (s.setFlags fl).fault = s.fault := rfl
@[simp] theorem State.setFlags_boot (s : State) (fl : Flags) : (s.setFlags fl).boot = s.boot := rfl
@[simp] theorem State.setFlags_vram (s : State) (fl : Flags) : (s.setFlags fl).vram = s.vram := rfl
@[simp] theorem State.setFlags_params (s : State) (fl : Flags) : (s.setFlags fl).params = s.params := rfl
@[simp] theorem State.setFlags_hostWrites (s : State) (fl : Flags) : (s.setFlags fl).hostWrites = s.hostWrites := rfl

/-! ### The byte views after a write -/

@[simp] theorem State.setA_a (s : State) (v : Byte) : (s.setA v).a = v := by simp [State.a, State.setA]
@[simp] theorem State.setA_f (s : State) (v : Byte) : (s.setA v).f = s.f := by simp [State.f, State.setA]
@[simp] theorem State.setA_b (s : State) (v : Byte) : (s.setA v).b = s.b := rfl
@[simp] theorem State.setA_c (s : State) (v : Byte) : (s.setA v).c = s.c := rfl
@[simp] theorem State.setA_d (s : State) (v : Byte) : (s.setA v).d = s.d := rfl
@[simp] theorem State.setA_e (s : State) (v : Byte) : (s.setA v).e = s.e := rfl
@[simp] theorem State.setA_h (s : State) (v : Byte) : (s.setA v).h = s.h := rfl
@[simp] theorem State.setA_l (s : State) (v : Byte) : (s.setA v).l = s.l := rfl

@[simp] theorem State.setF_a (s : State) (v : Byte) : (s.setF v).a = s.a := by simp [State.a, State.setF]
@[simp] theorem State.setF_f (s : State) (v : Byte) : (s.setF v).f = v &&& 0xF0 := by simp [State.f, State.setF]
@[simp] theorem State.setF_b (s : State) (v : Byte) : (s.setF v).b = s.b := rfl
@[simp] theorem State.setF_c (s : State) (v : Byte) : (s.setF v).c = s.c := rfl
@[simp] theorem State.setF_d (s : State) (v : Byte) : (s.setF v).d = s.d := rfl
@[simp] theorem State.setF_e (s : State) (v : Byte) : (s.setF v).e = s.e := rfl
@[simp] theorem State.setF_h (s : State) (v : Byte) : (s.setF v).h = s.h := rfl
@[simp] theorem State.setF_l (s : State) (v : Byte) : (s.setF v).l = s.l := rfl

@[simp] theorem State.setB_a (s : State) (v : Byte) : (s.setB v).a = s.a := rfl
@[simp] theorem State.setB_f (s : State) (v : Byte) : (s.setB v).f = s.f := rfl
@[simp] theorem State.setB_b (s : State) (v : Byte) : (s.setB v).b = v := by simp [State.b, State.setB]
@[simp] theorem State.setB_c (s : State) (v : Byte) : (s.setB v).c = s.c := by simp [State.c, State.setB]
@[simp] theorem State.setB_d (s : State) (v : Byte) : (s.setB v).d = s.d := rfl
@[simp] theorem State.setB_e (s : State) (v : Byte) : (s.setB v).e = s.e := rfl
@[simp] theorem State.setB_h (s : State) (v : Byte) : (s.setB v).h = s.h := rfl
@[simp] theorem State.setB_l (s : State) (v : Byte) : (s.setB v).l = s.l := rfl

@[simp] theorem State.setC_a (s : State) (v : Byte) : (s.setC v).a = s.a := rfl
@[simp] theorem State.setC_f (s : State) (v : Byte) : (s.setC v).f = s.f := rfl
@[simp] theorem State.setC_b (s : State) (v : Byte) : (s.setC v).b = s.b := by simp [State.b, State.setC]
@[simp] theorem State.setC_c (s : State) (v : Byte) : (s.setC v).c = v := by simp [State.c, State.setC]
@[simp] theorem State.setC_d (s : State) (v : Byte) : (s.setC v).d = s.d := rfl
@[simp] theorem State.setC_e (s : State) (v : Byte) : (s.setC v).e = s.e := rfl
@[simp] theorem State.setC_h (s : State) (v : Byte) : (s.setC v).h = s.h := rfl
@[simp] theorem State.setC_l (s : State) (v : Byte) : (s.setC v).l = s.l := rfl

@[simp] theorem State.setD_a (s : State) (v : Byte) : (s.setD v).a = s.a := rfl
@[simp] theorem State.setD_f (s : State) (v : Byte) : (s.setD v).f = s.f := rfl
@[simp] theorem State.setD_b (s : State) (v : Byte) : (s.setD v).b = s.b := rfl
@[simp] theorem State.setD_c (s : State) (v : Byte) : (s.setD v).c = s.c := rfl
@[simp] theorem State.setD_d (s : State) (v : Byte) : (s.setD v).d = v := by simp [State.d, State.setD]
@[simp] theorem State.setD_e (s : State) (v : Byte) : (s.setD v).e = s.e := by simp [State.e, State.setD]
@[simp] theorem State.setD_h (s : State) (v : Byte) : (s.setD v).h = s.h := rfl
@[simp] theorem State.setD_l (s : State) (v : Byte) : (s.setD v).l = s.l := rfl

@[simp] theorem State.setE_a (s : State) (v : Byte) : (s.setE v).a = s.a := rfl
@[simp] theorem State.setE_f (s : State) (v : Byte) : (s.setE v).f = s.f := rfl
@[simp] theorem State.setE_b (s : State) (v : Byte) : (s.setE v).b = s.b := rfl
@[simp] theorem State.setE_c (s : State) (v : Byte) : (s.setE v).c = s.c := rfl
@[simp] theorem State.setE_d (s : State) (v : Byte) : (s.setE v).d = s.d := by simp [State.d, State.setE]
@[simp] theorem State.setE_e (s : State) (v : Byte) : (s.setE v).e = v := by simp [State.e, State.setE]
@[simp] theorem State.setE_h (s : State) (v : Byte) : (s.setE v).h = s.h := rfl
@[simp] theorem State.setE_l (s : State) (v : Byte) : (s.setE v).l = s.l := rfl

@[simp] theorem State.setH_a (s : State) (v : Byte) : (s.setH v).a = s.a := rfl
@[simp] theorem State.setH_f (s : State) (v : Byte) : (s.setH v).f = s.f := rfl
@[simp] theorem State.setH_b (s : State) (v : Byte) : (s.setH v).b = s.b := rfl
@[simp] theorem State.setH_c (s : State) (v : Byte) : (s.setH v).c = s.c := rfl
@[simp] theorem State.setH_d (s : State) (v : Byte) : (s.setH v).d = s.d := rfl
@[simp] theorem State.setH_e (s : State) (v : Byte) : (s.setH v).e = s.e := rfl
@[simp] theorem State.setH_h (s : State) (v : Byte) : (s.setH v).h = v := by simp [State.h, State.setH]
@[simp] theorem State.setH_l (s : State) (v : Byte) : (s.setH v).l = s.l := by simp [State.l, State.setH]

@[simp] theorem State.setL_a (s : State) (v : Byte) : (s.setL v).a = s.a := rfl
@[simp] theorem State.setL_f (s : State) (v : Byte) : (s.setL v).f = s.f := rfl
@[simp] theorem State.setL_b (s : State) (v : Byte) : (s.setL v).b = s.b := rfl
@[simp] theorem State.setL_c (s : State) (v : Byte) : (s.setL v).c = s.c := rfl
@[simp] theorem State.setL_d (s : State) (v : Byte) : (s.setL v).d = s.d := rfl
@[simp] theorem State.setL_e (s : State) (v : Byte) : (s.setL v).e = s.e := rfl
@[simp] theorem State.setL_h (s : State) (v : Byte) : (s.setL v).h = s.h := by simp [State.h, State.setL]
@[simp] theorem State.setL_l (s : State) (v : Byte) : (s.setL v).l = v := by simp [State.l, State.setL]

@[simp] theorem State.setAF_a (s : State) (v : Word) : (s.setAF v).a = hiByte v := by show hiByte (v &&& 0xFFF0) = _; rw [and_FFF0_eq]; simp
@[simp] theorem State.setAF_f (s : State) (v : Word) : (s.setAF v).f = loByte v &&& 0xF0 := by show loByte (v &&& 0xFFF0) = _; rw [and_FFF0_eq]; simp
@[simp] theorem State.setAF_b (s : State) (v : Word) : (s.setAF v).b = s.b := rfl
@[simp] theorem State.setAF_c (s : State) (v : Word) : (s.setAF v).c = s.c := rfl
@[simp] theorem State.setAF_d (s : State) (v : Word) : (s.setAF v).d = s.d := rfl
@[simp] theorem State.setAF_e (s : State) (v : Word) : (s.setAF v).e = s.e := rfl
@[simp] theorem State.setAF_h (s : State) (v : Word) : (s.setAF v).h = s.h := rfl
@[simp] theorem State.setAF_l (s : State) (v : Word) : (s.setAF v).l = s.l := rfl

@[simp] theorem State.setBC_a (s : State) (v : Word) : (s.setBC v).a = s.a := rfl
@[simp] theorem State.setBC_f (s : State) (v : Word) : (s.setBC v).f = s.f := rfl
@[simp] theorem State.setBC_b (s : State) (v : Word) : (s.setBC v).b = hiByte v := rfl
@[simp] theorem State.setBC_c (s : State) (v : Word) : (s.setBC v).c = loByte v := rfl
@[simp] theorem State.setBC_d (s : State) (v : Word) : (s.setBC v).d = s.d := rfl
@[simp] theorem State.setBC_e (s : State) (v : Word) : (s.setBC v).e = s.e := rfl
@[simp] theorem State.setBC_h (s : State) (v : Word) : (s.setBC v).h = s.h := rfl
@[simp] theorem State.setBC_l (s : State) (v : Word) : (s.setBC v).l = s.l := rfl

@[simp] theorem State.setDE_a (s : State) (v : Word) : (s.setDE v).a = s.a := rfl
@[simp] theorem State.setDE_f (s : State) (v : Word) : (s.setDE v).f = s.f := rfl
@[simp] theorem State.setDE_b (s : State) (v : Word) : (s.setDE v).b = s.b := rfl
@[simp] theorem State.setDE_c (s : State) (v : Word) : (s.setDE v).c = s.c := rfl
@[simp] theorem State.setDE_d (s : State) (v : Word) : (s.setDE v).d = hiByte v := rfl
@[simp] theorem State.setDE_e (s : State) (v : Word) : (s.setDE v).e = loByte v := rfl
@[simp] theorem State.setDE_h (s : State) (v : Word) : (s.setDE v).h = s.h := rfl
@[simp] theorem State.setDE_l (s : State) (v : Word) : (s.setDE v).l = s.l := rfl

@[simp] theorem State.setHL_a (s : State) (v : Word) : (s.setHL v).a = s.a := rfl
@[simp] theorem State.setHL_f (s : State) (v : Word) : (s.setHL v).f = s.f := rfl
@[simp] theorem State.setHL_b (s : State) (v : Word) : (s.setHL v).b = s.b := rfl
@[simp] theorem State.setHL_c (s : State) (v : Word) : (s.setHL v).c = s.c := rfl
@[simp] theorem State.setHL_d (s : State) (v : Word) : (s.setHL v).d = s.d := rfl
@[simp] theorem State.setHL_e (s : State) (v : Word) : (s.setHL v).e = s.e := rfl
@[simp] theorem State.setHL_h (s : State) (v : Word) : (s.setHL v).h = hiByte v := rfl
@[simp] theorem State.setHL_l (s : State) (v : Word) : (s.setHL v).l = loByte v := rfl

@[simp] theorem State.setSP_a (s : State) (v : Word) : (s.setSP v).a = s.a := rfl
@[simp] theorem State.setSP_f (s : State) (v : Word) : (s.setSP v).f = s.f := rfl
@[simp] theorem State.setSP_b (s : State) (v : Word) : (s.setSP v).b = s.b := rfl
@[simp] theorem State.setSP_c (s : State) (v : Word) : (s.setSP v).c = s.c := rfl
@[simp] theorem State.setSP_d (s : State) (v : Word) : (s.setSP v).d = s.d := rfl
@[simp] theorem State.setSP_e (s : State) (v : Word) : (s.setSP v).e = s.e := rfl
@[simp] theorem State.setSP_h (s : State) (v : Word) : (s.setSP v).h = s.h := rfl
@[simp] theorem State.setSP_l (s : State) (v : Word) : (s.setSP v).l = s.l := rfl

@[simp] theorem State.setPC_a (s : State) (v : Word) : (s.setPC v).a = s.a := rfl
@[simp] theorem State.setPC_f (s : State) (v : Word) : (s.setPC v).f = s.f := rfl
@[simp] theorem State.setPC_b (s : State) (v : Word) : (s.setPC v).b = s.b := rfl
@[simp] theorem State.setPC_c (s : State) (v : Word) : (s.setPC v).c = s.c := rfl
@[simp] theorem State.setPC_d (s : State) (v : Word) : (s.setPC v).d = s.d := rfl
@[simp] theorem State.setPC_e (s : State) (v : Word) : (s.setPC v).e = s.e := rfl
@[simp] theorem State.setPC_h (s : State) (v : Word) : (s.setPC v).h = s.h := rfl
@[simp] theorem State.setPC_l (s : State) (v : Word) : (s.setPC v).l = s.l := rfl

@[simp] theorem State.setFlags_a (s : State) (fl : Flags) : (s.setFlags fl).a = s.a := State.setF_a s _
theorem State.setFlags_f_masked (s : State) (fl : Flags) : (s.setFlags fl).f = fl.toByte &&& 0xF0 := State.setF_f s _
@[simp] theorem State.setFlags_b (s : State) (fl : Flags) : (s.setFlags fl).b = s.b := State.setF_b s _
@[simp] theorem State.setFlags_c (s : State) (fl : Flags) : (s.setFlags fl).c = s.c := State.setF_c s _
@[simp] theorem State.setFlags_d (s : State) (fl : Flags) : (s.setFlags fl).d = s.d := State.setF_d s _
@[simp] theorem State.setFlags_e (s : State) (fl : Flags) : (s.setFlags fl).e = s.e := State.setF_e s _
@[simp] theorem State.setFlags_h (s : State) (fl : Flags) : (s.setFlags fl).h = s.h := State.setF_h s _
@[simp] theorem State.setFlags_l (s : State) (fl : Flags) : (s.setFlags fl).l = s.l := State.setF_l s _

/-! ### The flags -/

/-- The flag byte has nothing below bit 4, so that masking it changes nothing (rule R24, rule R25). -/
@[simp] theorem Flags.toByte_masked (fl : Flags) : fl.toByte &&& 0xF0 = fl.toByte := by
  obtain ⟨z, n, h, c⟩ := fl
  revert z n h c; decide

@[simp] theorem Flags.toByte_low (fl : Flags) : fl.toByte &&& 0x0F = 0 := by
  obtain ⟨z, n, h, c⟩ := fl
  revert z n h c; decide

theorem Flags.toByte_z (fl : Flags) : fl.toByte.getLsbD 7 = fl.z := by
  obtain ⟨z, n, h, c⟩ := fl
  revert z n h c; decide

theorem Flags.toByte_n (fl : Flags) : fl.toByte.getLsbD 6 = fl.n := by
  obtain ⟨z, n, h, c⟩ := fl
  revert z n h c; decide

theorem Flags.toByte_h (fl : Flags) : fl.toByte.getLsbD 5 = fl.h := by
  obtain ⟨z, n, h, c⟩ := fl
  revert z n h c; decide

theorem Flags.toByte_c (fl : Flags) : fl.toByte.getLsbD 4 = fl.c := by
  obtain ⟨z, n, h, c⟩ := fl
  revert z n h c; decide

@[simp] theorem State.setFlags_f (s : State) (fl : Flags) : (s.setFlags fl).f = fl.toByte := by
  rw [State.setFlags_f_masked, Flags.toByte_masked]

@[simp] theorem State.setFlags_flagZ (s : State) (fl : Flags) : (s.setFlags fl).flagZ = fl.z := by
  rw [State.flagZ, State.setFlags_f, Flags.toByte_z]

@[simp] theorem State.setFlags_flagN (s : State) (fl : Flags) : (s.setFlags fl).flagN = fl.n := by
  rw [State.flagN, State.setFlags_f, Flags.toByte_n]

@[simp] theorem State.setFlags_flagH (s : State) (fl : Flags) : (s.setFlags fl).flagH = fl.h := by
  rw [State.flagH, State.setFlags_f, Flags.toByte_h]

@[simp] theorem State.setFlags_flagC (s : State) (fl : Flags) : (s.setFlags fl).flagC = fl.c := by
  rw [State.flagC, State.setFlags_f, Flags.toByte_c]

@[simp] theorem State.flags_z (s : State) : s.flags.z = s.flagZ := rfl
@[simp] theorem State.flags_n (s : State) : s.flags.n = s.flagN := rfl
@[simp] theorem State.flags_h (s : State) : s.flags.h = s.flagH := rfl
@[simp] theorem State.flags_c (s : State) : s.flags.c = s.flagC := rfl

/-- Where the low nibble of `F` is 0, `F` is its four flags and nothing else (rule R24). -/
theorem State.f_eq_flags (s : State) (h : s.f &&& 0x0F = 0) : s.f = s.flags.toByte := by
  have key : ∀ f : Byte, f &&& 0x0F = 0 →
      f = Flags.toByte ⟨f.getLsbD 7, f.getLsbD 6, f.getLsbD 5, f.getLsbD 4⟩ := by decide
  exact key s.f h

/-! ### Registers by their field -/

@[simp] theorem State.setReg_sp (s : State) (r : Reg) (v : Byte) : (s.setReg r v).sp = s.sp := by cases r <;> rfl
@[simp] theorem State.setReg_pc (s : State) (r : Reg) (v : Byte) : (s.setReg r v).pc = s.pc := by cases r <;> rfl
@[simp] theorem State.setReg_counter (s : State) (r : Reg) (v : Byte) : (s.setReg r v).counter = s.counter := by cases r <;> rfl
@[simp] theorem State.setReg_halted (s : State) (r : Reg) (v : Byte) : (s.setReg r v).halted = s.halted := by cases r <;> rfl
@[simp] theorem State.setReg_fault (s : State) (r : Reg) (v : Byte) : (s.setReg r v).fault = s.fault := by cases r <;> rfl
@[simp] theorem State.setReg_boot (s : State) (r : Reg) (v : Byte) : (s.setReg r v).boot = s.boot := by cases r <;> rfl
@[simp] theorem State.setReg_vram (s : State) (r : Reg) (v : Byte) : (s.setReg r v).vram = s.vram := by cases r <;> rfl
@[simp] theorem State.setReg_params (s : State) (r : Reg) (v : Byte) : (s.setReg r v).params = s.params := by cases r <;> rfl
@[simp] theorem State.setReg_hostWrites (s : State) (r : Reg) (v : Byte) : (s.setReg r v).hostWrites = s.hostWrites := by cases r <;> rfl
@[simp] theorem State.setReg_f (s : State) (r : Reg) (v : Byte) : (s.setReg r v).f = s.f := by cases r <;> simp [State.setReg]

theorem State.reg_setReg (s : State) (r q : Reg) (v : Byte) :
    (s.setReg r v).reg q = if q = r then v else s.reg q := by
  cases r <;> cases q <;> simp [State.setReg, State.reg]

@[simp] theorem State.reg_setReg_same (s : State) (r : Reg) (v : Byte) : (s.setReg r v).reg r = v := by
  simp [State.reg_setReg]

theorem State.reg_setReg_other (s : State) {r q : Reg} (h : q ≠ r) (v : Byte) : (s.setReg r v).reg q = s.reg q := by
  simp [State.reg_setReg, h]

@[simp] theorem State.reg_setFlags (s : State) (q : Reg) (fl : Flags) : (s.setFlags fl).reg q = s.reg q := by
  cases q <;> simp [State.reg]

@[simp] theorem State.reg_setSP (s : State) (q : Reg) (v : Word) : (s.setSP v).reg q = s.reg q := by
  cases q <;> rfl

@[simp] theorem State.reg_setPC (s : State) (q : Reg) (v : Word) : (s.setPC v).reg q = s.reg q := by
  cases q <;> rfl

@[simp] theorem State.reg_setA (s : State) (q : Reg) (v : Byte) : (s.setA v).reg q = if q = .a then v else s.reg q := by
  cases q <;> simp [State.reg]

/-- Writing a register back what it holds changes nothing (rule R111, the case `d = s`). -/
theorem State.setReg_reg (s : State) (r : Reg) : s.setReg r (s.reg r) = s := by
  cases s
  cases r <;>
    simp [State.setReg, State.reg, State.setA, State.setB, State.setC, State.setD, State.setE, State.setH, State.setL,
      State.a, State.b, State.c, State.d, State.e, State.h, State.l]

@[simp] theorem State.setStackPair_sp (s : State) (q : StackPair) (v : Word) : (s.setStackPair q v).sp = s.sp := by cases q <;> rfl
@[simp] theorem State.setPair_pc (s : State) (p : Pair) (v : Word) : (s.setPair p v).pc = s.pc := by cases p <;> rfl
@[simp] theorem State.setStackPair_pc (s : State) (q : StackPair) (v : Word) : (s.setStackPair q v).pc = s.pc := by cases q <;> rfl
@[simp] theorem State.setPair_counter (s : State) (p : Pair) (v : Word) : (s.setPair p v).counter = s.counter := by cases p <;> rfl
@[simp] theorem State.setStackPair_counter (s : State) (q : StackPair) (v : Word) : (s.setStackPair q v).counter = s.counter := by cases q <;> rfl
@[simp] theorem State.setPair_halted (s : State) (p : Pair) (v : Word) : (s.setPair p v).halted = s.halted := by cases p <;> rfl
@[simp] theorem State.setStackPair_halted (s : State) (q : StackPair) (v : Word) : (s.setStackPair q v).halted = s.halted := by cases q <;> rfl
@[simp] theorem State.setPair_fault (s : State) (p : Pair) (v : Word) : (s.setPair p v).fault = s.fault := by cases p <;> rfl
@[simp] theorem State.setStackPair_fault (s : State) (q : StackPair) (v : Word) : (s.setStackPair q v).fault = s.fault := by cases q <;> rfl
@[simp] theorem State.setPair_boot (s : State) (p : Pair) (v : Word) : (s.setPair p v).boot = s.boot := by cases p <;> rfl
@[simp] theorem State.setStackPair_boot (s : State) (q : StackPair) (v : Word) : (s.setStackPair q v).boot = s.boot := by cases q <;> rfl
@[simp] theorem State.setPair_vram (s : State) (p : Pair) (v : Word) : (s.setPair p v).vram = s.vram := by cases p <;> rfl
@[simp] theorem State.setStackPair_vram (s : State) (q : StackPair) (v : Word) : (s.setStackPair q v).vram = s.vram := by cases q <;> rfl
@[simp] theorem State.setPair_params (s : State) (p : Pair) (v : Word) : (s.setPair p v).params = s.params := by cases p <;> rfl
@[simp] theorem State.setStackPair_params (s : State) (q : StackPair) (v : Word) : (s.setStackPair q v).params = s.params := by cases q <;> rfl
@[simp] theorem State.setPair_hostWrites (s : State) (p : Pair) (v : Word) : (s.setPair p v).hostWrites = s.hostWrites := by cases p <;> rfl
@[simp] theorem State.setStackPair_hostWrites (s : State) (q : StackPair) (v : Word) : (s.setStackPair q v).hostWrites = s.hostWrites := by cases q <;> rfl
@[simp] theorem State.setPair_af (s : State) (p : Pair) (v : Word) : (s.setPair p v).af = s.af := by cases p <;> rfl
@[simp] theorem State.setPair_f (s : State) (p : Pair) (v : Word) : (s.setPair p v).f = s.f := by cases p <;> rfl

theorem State.pair_setPair (s : State) (p q : Pair) (v : Word) :
    (s.setPair p v).pair q = if q = p then v else s.pair q := by
  cases p <;> cases q <;> rfl

/-! ### The end of an instruction -/

/-- A completed instruction is always a next state, and it differs from the state before in the counter alone. -/
theorem complete_eq (cost : Nat) (s : State) : complete cost s = .next { s with counter := cost - 1 } := rfl

/-- A raise is always a next state, and it differs from the state before in the recorded error alone (rule R273). -/
theorem raise_eq (e : Fault) (s : State) : raise e s = .next { s with fault := some e } := rfl

end Sys2Proof.Machine
end

