-- ==== Sys2Proof/Laws/Memory.lean ====
section
/-! SUPPORT. Backing stores: a read after a write, the canonical form kept by every operation, and equal reads meaning
equal stores. -/

namespace Sys2Proof.Machine

theorem Memory.wfFrom_cons {size lo j : Nat} {v : Byte} {rest : Memory} :
    Memory.wfFrom size lo ((j, v) :: rest) = true ↔
      lo ≤ j ∧ j < size ∧ v ≠ Memory.unlisted ∧ Memory.wfFrom size (j + 1) rest = true := by
  simp [Memory.wfFrom, and_assoc]

theorem Memory.wfFrom_mono {size lo lo' : Nat} {m : Memory} (h : Memory.wfFrom size lo m = true) (hl : lo' ≤ lo) :
    Memory.wfFrom size lo' m = true := by
  cases m with
  | nil => rfl
  | cons c rest =>
    obtain ⟨j, v⟩ := c
    rw [Memory.wfFrom_cons] at h ⊢
    exact ⟨hl.trans h.1, h.2⟩

/-- Nothing is listed below the first offset. -/
theorem Memory.readCell_below {size lo k : Nat} {m : Memory} (h : Memory.wfFrom size lo m = true) (hk : k < lo) :
    Memory.readCell m k = Memory.unlisted := by
  induction m generalizing lo with
  | nil => rfl
  | cons c rest ih =>
    obtain ⟨j, v⟩ := c
    rw [Memory.wfFrom_cons] at h
    rw [Memory.readCell, if_neg (by omega)]
    exact ih h.2.2.2 (by omega)

/-- A write leaves every other byte of the store as it was. -/
theorem Memory.readCell_writeCell_other (m : Memory) {j k : Nat} (v : Byte) (h : j ≠ k) :
    Memory.readCell (Memory.writeCell m k v) j = Memory.readCell m j := by
  induction m with
  | nil =>
    rw [Memory.writeCell]
    split
    · rfl
    · simp [Memory.readCell, h.symm]
  | cons c rest ih =>
    obtain ⟨i, u⟩ := c
    rw [Memory.writeCell]
    split
    · split
      · rfl
      · rw [Memory.readCell, if_neg h.symm]
    · split
      · rename_i hki
        subst hki
        split
        · rw [Memory.readCell, if_neg h.symm]
        · simp [Memory.readCell, h.symm]
      · simp [Memory.readCell, ih]

/-- A read after a write to the same byte gives the byte written. -/
theorem Memory.readCell_writeCell_same {size lo : Nat} {m : Memory} (hw : Memory.wfFrom size lo m = true) (k : Nat) (v : Byte) :
    Memory.readCell (Memory.writeCell m k v) k = v := by
  induction m generalizing lo with
  | nil =>
    rw [Memory.writeCell]
    split
    · simp_all [Memory.readCell]
    · simp [Memory.readCell]
  | cons c rest ih =>
    obtain ⟨i, u⟩ := c
    have hc := Memory.wfFrom_cons.mp hw
    rw [Memory.writeCell]
    split
    · split
      · rename_i hki hv
        rw [hv]
        exact Memory.readCell_below (lo := i) (Memory.wfFrom_cons.mpr ⟨le_refl i, hc.2⟩) hki
      · simp [Memory.readCell]
    · split
      · rename_i hki
        subst hki
        split
        · rename_i hv
          rw [hv]
          exact Memory.readCell_below hc.2.2.2 (by omega)
        · simp [Memory.readCell]
      · rename_i hki hne
        rw [Memory.readCell, if_neg (fun h => hne h.symm)]
        exact ih hc.2.2.2

/-- A write keeps the canonical form. -/
theorem Memory.wfFrom_writeCell {size lo : Nat} {m : Memory} (hw : Memory.wfFrom size lo m = true) {k : Nat} (v : Byte)
    (hlo : lo ≤ k) (hk : k < size) : Memory.wfFrom size lo (Memory.writeCell m k v) = true := by
  induction m generalizing lo with
  | nil =>
    rw [Memory.writeCell]
    split
    · rfl
    · rename_i hv
      exact Memory.wfFrom_cons.mpr ⟨hlo, hk, hv, rfl⟩
  | cons c rest ih =>
    obtain ⟨i, u⟩ := c
    have hc := Memory.wfFrom_cons.mp hw
    rw [Memory.writeCell]
    split
    · split
      · exact hw
      · rename_i hki hv
        exact Memory.wfFrom_cons.mpr ⟨hlo, hk, hv, Memory.wfFrom_cons.mpr ⟨hki, hc.2⟩⟩
    · split
      · rename_i hki
        subst hki
        split
        · exact Memory.wfFrom_mono hc.2.2.2 (by omega)
        · rename_i hv
          exact Memory.wfFrom_cons.mpr ⟨hlo, hk, hv, hc.2.2.2⟩
      · exact Memory.wfFrom_cons.mpr ⟨hc.1, hc.2.1, hc.2.2.1, ih hc.2.2.2 (by omega)⟩

theorem Memory.wf_writeCell {size : Nat} {m : Memory} (hw : Memory.wf size m = true) {k : Nat} (v : Byte) (hk : k < size) :
    Memory.wf size (Memory.writeCell m k v) = true :=
  Memory.wfFrom_writeCell hw v (Nat.zero_le k) hk

/-- Two stores in canonical form that read alike everywhere are equal. -/
theorem Memory.eq_of_readCell_eq {size lo : Nat} {m n : Memory} (hm : Memory.wfFrom size lo m = true)
    (hn : Memory.wfFrom size lo n = true) (h : ∀ k, Memory.readCell m k = Memory.readCell n k) : m = n := by
  induction m generalizing n lo with
  | nil =>
    cases n with
    | nil => rfl
    | cons c rest =>
      obtain ⟨i, u⟩ := c
      have := h i
      simp [Memory.readCell] at this
      exact absurd this.symm (Memory.wfFrom_cons.mp hn).2.2.1
  | cons c rest ih =>
    obtain ⟨i, u⟩ := c
    have hc := Memory.wfFrom_cons.mp hm
    cases n with
    | nil =>
      have := h i
      simp [Memory.readCell] at this
      exact absurd this hc.2.2.1
    | cons d rest' =>
      obtain ⟨j, v⟩ := d
      have hd := Memory.wfFrom_cons.mp hn
      have hij : i = j := by
        rcases Nat.lt_trichotomy i j with hlt | heq | hgt
        · have h1 := h i
          rw [Memory.readCell, if_pos rfl,
            Memory.readCell_below (lo := j) (Memory.wfFrom_cons.mpr ⟨le_refl j, hd.2⟩) hlt] at h1
          exact absurd h1 hc.2.2.1
        · exact heq
        · have h1 := h j
          rw [Memory.readCell_below (lo := i) (Memory.wfFrom_cons.mpr ⟨le_refl i, hc.2⟩) hgt,
            Memory.readCell, if_pos rfl] at h1
          exact absurd h1.symm hd.2.2.1
      subst hij
      have hv : u = v := by simpa [Memory.readCell] using h i
      subst hv
      rw [ih hc.2.2.2 hd.2.2.2 (fun k => ?_)]
      by_cases hk : i = k
      · subst hk
        rw [Memory.readCell_below hc.2.2.2 (Nat.lt_succ_self i), Memory.readCell_below hd.2.2.2 (Nat.lt_succ_self i)]
      · simpa [Memory.readCell, hk] using h k

/-- A store made from bytes is in canonical form. -/
theorem Memory.wfFrom_ofBytesFrom (bytes : List Byte) (k size : Nat) (h : k + bytes.length ≤ size) :
    Memory.wfFrom size k (Memory.ofBytesFrom k bytes) = true := by
  induction bytes generalizing k with
  | nil => rfl
  | cons v rest ih =>
    rw [List.length_cons] at h
    rw [Memory.ofBytesFrom]
    split
    · exact Memory.wfFrom_mono (ih (k + 1) (by omega)) (by omega)
    · rename_i hv
      exact Memory.wfFrom_cons.mpr ⟨le_refl k, by omega, hv, ih (k + 1) (by omega)⟩

/-- A store made from bytes reads as those bytes. -/
theorem Memory.readCell_ofBytesFrom (bytes : List Byte) (k j : Nat) :
    Memory.readCell (Memory.ofBytesFrom k bytes) (k + j) = bytes.getD j Memory.unlisted := by
  induction bytes generalizing k j with
  | nil => rfl
  | cons v rest ih =>
    rw [Memory.ofBytesFrom]
    cases j with
    | zero =>
      split
      · rename_i hv
        rw [hv]
        exact Memory.readCell_below (Memory.wfFrom_ofBytesFrom rest (k + 1) _ (le_refl _)) (by omega)
      · simp [Memory.readCell]
    | succ j =>
      have := ih (k + 1) j
      rw [show k + 1 + j = k + (j + 1) by omega] at this
      split
      · simpa using this
      · rw [Memory.readCell, if_neg (by omega)]
        simpa using this

/-- The collaborator's writes keep video memory's canonical form: their offsets are inside the block. -/
theorem applyVramWrites_wf (ws : List VramWrite) {m : Memory} (h : Memory.wf vramSize m = true) :
    Memory.wf vramSize (applyVramWrites ws m) = true := by
  induction ws generalizing m with
  | nil => exact h
  | cons w rest ih => exact ih (Memory.wf_writeCell h _ w.offset.isLt)

end Sys2Proof.Machine
end

