-- ==== Sys2Proof/Laws/Router.lean ====
section
/-! SUPPORT. What the router and the accesses through it can answer (spec/20_memory.md rule R51 to rule R62): one
inversion lemma per access, cited in place of unfolding it. -/

namespace Sys2Proof.Machine

/-! ### Regions -/

theorem route_videoMemory_lt {a : Word} {k : Nat} (h : route a = .videoMemory k) : k < vramSize := by
  have ha := a.isLt
  simp only [route] at h
  unfold vramSize
  split at h
  · split at h <;> simp at h
  · split at h
    · simp only [Region.videoMemory.injEq] at h; omega
    · split at h
      · simp only [Region.videoMemory.injEq] at h; omega
      · split at h
        · simp at h
        · split at h <;> simp at h

theorem route_bootImage_lt {a : Word} {k : Nat} (h : route a = .bootImage k) : k < bootImageSize := by
  simp only [route] at h
  unfold bootImageSize
  split at h
  · split at h <;> simp at h
  · split at h
    · simp at h
    · split at h
      · simp at h
      · split at h
        · simp only [Region.bootImage.injEq] at h; omega
        · split at h <;> simp at h

/-! ### 8-bit accesses -/

/-! ### The region of each range of rule R53 -/

theorem route_bootImage {a : Word} (h : a.toNat ≤ 0x00FF) : route a = .bootImage a.toNat := by
  unfold route
  simp only
  repeat' split
  all_goals first | omega | rfl

theorem route_bootBeyond {a : Word} (h : 0x0100 ≤ a.toNat) (h' : a.toNat ≤ 0x0FFF) : route a = .bootBeyond := by
  unfold route
  simp only
  repeat' split
  all_goals first | omega | rfl

theorem route_videoMemory {a : Word} (h : 0x8000 ≤ a.toNat) (h' : a.toNat ≤ 0x9FFF) :
    route a = .videoMemory (a.toNat - 0x8000) := by
  unfold route
  simp only
  repeat' split
  all_goals first | omega | rfl

theorem route_echo {a : Word} (h : 0xE000 ≤ a.toNat) (h' : a.toNat ≤ 0xFDFF) : route a = .videoMemory (a.toNat - 0xE000) := by
  unfold route
  simp only
  repeat' split
  all_goals first | omega | rfl

theorem route_controlRegister {a : Word} (h : a.toNat = 0xFF26) : route a = .controlRegister := by
  unfold route
  simp only
  repeat' split
  all_goals first | omega | rfl

theorem route_unclaimed {a : Word} (h : 0x1000 ≤ a.toNat ∧ a.toNat ≤ 0x7FFF ∨ 0xA000 ≤ a.toNat ∧ a.toNat ≤ 0xDFFF ∨
    0xFE00 ≤ a.toNat ∧ a.toNat ≠ 0xFF26) : route a = .unclaimed := by
  unfold route
  simp only
  repeat' split
  all_goals first | omega | rfl

/-- The address of a video memory offset, and of its echo. -/
theorem route_videoMemory_offset {k : Nat} (h : k < 0x2000) : route (BitVec.ofNat 16 (0x8000 + k)) = .videoMemory k := by
  have hk : (BitVec.ofNat 16 (0x8000 + k)).toNat = 0x8000 + k := by rw [BitVec.toNat_ofNat]; omega
  rw [route_videoMemory (by omega) (by omega), hk, Nat.add_sub_cancel_left]

theorem route_echo_offset {k : Nat} (h : k < 0x1E00) : route (BitVec.ofNat 16 (0xE000 + k)) = .videoMemory k := by
  have hk : (BitVec.ofNat 16 (0xE000 + k)).toNat = 0xE000 + k := by rw [BitVec.toNat_ofNat]; omega
  rw [route_echo (by omega) (by omega), hk, Nat.add_sub_cancel_left]

/-- No other address is sent to a video memory offset. -/
theorem route_videoMemory_addr {a : Word} {k : Nat} (h : route a = .videoMemory k) :
    a.toNat = 0x8000 + k ∨ (k < 0x1E00 ∧ a.toNat = 0xE000 + k) := by
  unfold route at h
  simp only at h
  repeat' split at h
  all_goals first | (simp at h; done) | (simp at h; omega)

/-- A read depends on the two backing stores alone. -/
theorem State.read8_congr {s t : State} (hb : t.boot = s.boot) (hv : t.vram = s.vram) (a : Word) : t.read8 a = s.read8 a := by
  rw [State.read8, State.read8, hb, hv]

/-- A refused read is an access error of that address (rule R60, rule R272). -/
theorem State.read8_error {s : State} {a : Word} {e : Fault} (h : s.read8 a = .error e) : e = .accessError a .read := by
  unfold State.read8 at h
  split at h <;> simp_all

/-- A refused write is an access error of that address (rule R60, rule R272). -/
theorem State.write8_error {s : State} {a : Word} {v : Byte} {e : Fault} (h : s.write8 a v = .error e) :
    e = .accessError a .write := by
  unfold State.write8 at h
  split at h <;> simp_all

/-- A write that succeeds stores one byte of video memory, or is 0xFF26's and changes nothing (rule R52). -/
theorem State.write8_ok {s t : State} {a : Word} {v : Byte} (h : s.write8 a v = .ok t) :
    (∃ k, route a = .videoMemory k ∧ t = { s with vram := Memory.writeCell s.vram k v }) ∨
      (route a = .controlRegister ∧ t = s) := by
  unfold State.write8 at h
  split at h
  · rename_i k hk
    exact Or.inl ⟨k, hk, by simpa using h.symm⟩
  · rename_i hk
    exact Or.inr ⟨hk, by simpa using h.symm⟩
  all_goals simp at h

/-- Whether a write succeeds depends on the address alone, and then it changes video memory alone. -/
theorem State.write8_ok_eq {s t : State} {a : Word} {v : Byte} (h : s.write8 a v = .ok t) : t = { s with vram := t.vram } := by
  rcases State.write8_ok h with ⟨k, _, rfl⟩ | ⟨_, rfl⟩ <;> rfl

/-- After a write, an address the router sends elsewhere reads as before (rule R58). -/
theorem State.read8_write8_other {s t : State} {a b : Word} {v : Byte} (h : s.write8 a v = .ok t)
    (hr : route b ≠ route a) : t.read8 b = s.read8 b := by
  rcases State.write8_ok h with ⟨k, hk, rfl⟩ | ⟨_, rfl⟩
  · unfold State.read8
    split
    · rfl
    · rename_i j hj
      rw [hj, hk] at hr
      have : j ≠ k := fun hjk => hr (by rw [hjk])
      exact congrArg Except.ok (Memory.readCell_writeCell_other _ _ this)
    all_goals rfl
  · rfl

/-- After a write to video memory, every address of that byte reads as the byte written (rule R58, rule R69). -/
theorem State.read8_write8_same {s t : State} {a b : Word} {v : Byte} {k : Nat} (hw : Memory.wf vramSize s.vram = true)
    (h : s.write8 a v = .ok t) (ha : route a = .videoMemory k) (hb : route b = .videoMemory k) : t.read8 b = .ok v := by
  rcases State.write8_ok h with ⟨j, hj, rfl⟩ | ⟨hc, _⟩
  · rw [ha] at hj
    obtain rfl : k = j := by simpa using hj
    simp only [State.read8, hb]
    exact congrArg Except.ok (Memory.readCell_writeCell_same hw k v)
  · rw [ha] at hc; simp at hc

/-! ### 16-bit accesses and the stack -/

/-- A 16-bit write that succeeds is two 8-bit writes that succeed (rule R62). -/
theorem State.write16_ok {s t : State} {a v : Word} (h : s.write16 a v = .ok t) :
    ∃ m, s.write8 a (loByte v) = .ok m ∧ m.write8 (a + 1) (hiByte v) = .ok t := by
  unfold State.write16 at h
  split at h
  · simp at h
  · rename_i m hm
    split at h
    · simp at h
    · rename_i u hu
      exact ⟨m, hm, by rw [hu]; simpa using h⟩

/-- A 16-bit write that fails leaves the state as it was, or with its low byte written (rule R62). -/
theorem State.write16_error {s t : State} {a v : Word} {e : Fault} (h : s.write16 a v = .error (e, t)) :
    (e = .accessError a .write ∧ t = s) ∨
      (e = .accessError (a + 1) .write ∧ s.write8 a (loByte v) = .ok t) := by
  unfold State.write16 at h
  split at h
  · rename_i e' he
    simp only [Except.error.injEq, Prod.mk.injEq] at h
    obtain ⟨rfl, rfl⟩ := h
    exact Or.inl ⟨State.write8_error he, rfl⟩
  · rename_i m hm
    split at h
    · rename_i e' he
      simp only [Except.error.injEq, Prod.mk.injEq] at h
      obtain ⟨rfl, rfl⟩ := h
      exact Or.inr ⟨State.write8_error he, hm⟩
    · simp at h

/-- A 16-bit write changes video memory alone, whether it succeeds or not. -/
theorem State.write16_ok_eq {s t : State} {a v : Word} (h : s.write16 a v = .ok t) : t = { s with vram := t.vram } := by
  obtain ⟨m, h1, h2⟩ := State.write16_ok h
  rw [State.write8_ok_eq h2, State.write8_ok_eq h1]

theorem State.write16_error_eq {s t : State} {a v : Word} {e : Fault} (h : s.write16 a v = .error (e, t)) :
    t = { s with vram := t.vram } := by
  rcases State.write16_error h with ⟨_, rfl⟩ | ⟨_, h1⟩
  · rfl
  · exact State.write8_ok_eq h1

/-- A 16-bit read that succeeds is two 8-bit reads that succeed (rule R61). -/
theorem State.read16_ok {s : State} {a v : Word} (h : s.read16 a = .ok v) :
    ∃ lo hi, s.read8 a = .ok lo ∧ s.read8 (a + 1) = .ok hi ∧ v = joinBytes hi lo := by
  unfold State.read16 at h
  split at h
  · simp at h
  · rename_i lo hlo
    split at h
    · simp at h
    · rename_i hi hhi
      exact ⟨lo, hi, hlo, hhi, by simpa using h.symm⟩

/-- A push that succeeds moves `SP` and writes two bytes (rule R145). -/
theorem State.push_ok_eq {s t : State} {v : Word} (h : s.push v = .ok t) : t = { s with sp := s.sp - 2, vram := t.vram } :=
  State.write16_ok_eq h

/-- A push that fails leaves `SP` moved (rule R145, decision D18). -/
theorem State.push_error_eq {s t : State} {v : Word} {e : Fault} (h : s.push v = .error (e, t)) :
    t = { s with sp := s.sp - 2, vram := t.vram } :=
  State.write16_error_eq h

/-- A pop changes `SP` alone (rule R146). -/
theorem State.pop_ok {s t : State} {v : Word} (h : s.pop = .ok (v, t)) : s.read16 s.sp = .ok v ∧ t = s.setSP (s.sp + 2) := by
  unfold State.pop at h
  split at h
  · simp at h
  · rename_i w hw
    simp only [Except.ok.injEq, Prod.mk.injEq] at h
    obtain ⟨rfl, rfl⟩ := h
    exact ⟨hw, rfl⟩

end Sys2Proof.Machine
end

