-- ==== Sys2Proof/Laws/Ends.lean ====
section
/-! SUPPORT. Everything an instruction can do, said once: it writes registers and video memory (`Quiet`), and then it
completes at a cost of 1 to 6 or raises (`Ends`). One lemma per shared operation, then one for `exec`. -/

namespace Sys2Proof.Machine

/-- `u` is `s` after writes of registers, flags and video memory only, each of which keeps the canonical form of video
memory and the low nibble of `F`. -/
structure Quiet (s u : State) : Prop where
  counter : u.counter = s.counter
  halted : u.halted = s.halted
  fault : u.fault = s.fault
  boot : u.boot = s.boot
  params : u.params = s.params
  hostWrites : u.hostWrites = s.hostWrites
  vramWf : Memory.wf vramSize s.vram = true → Memory.wf vramSize u.vram = true
  flagsLow : s.f &&& 0x0F = 0 → u.f &&& 0x0F = 0

theorem Quiet.refl (s : State) : Quiet s s := ⟨rfl, rfl, rfl, rfl, rfl, rfl, id, id⟩

theorem Quiet.trans {s u w : State} (h₁ : Quiet s u) (h₂ : Quiet u w) : Quiet s w :=
  ⟨h₂.counter.trans h₁.counter, h₂.halted.trans h₁.halted, h₂.fault.trans h₁.fault, h₂.boot.trans h₁.boot,
    h₂.params.trans h₁.params, h₂.hostWrites.trans h₁.hostWrites, fun h => h₂.vramWf (h₁.vramWf h),
    fun h => h₂.flagsLow (h₁.flagsLow h)⟩

/-- A change of nothing but slots, that leaves `F` or masks it, is quiet. -/
theorem Quiet.of_slots {s u : State} (hc : u.counter = s.counter) (hh : u.halted = s.halted) (hf : u.fault = s.fault)
    (hb : u.boot = s.boot) (hp : u.params = s.params) (hw : u.hostWrites = s.hostWrites) (hv : u.vram = s.vram)
    (hl : u.f = s.f ∨ u.f &&& 0x0F = 0) : Quiet s u :=
  ⟨hc, hh, hf, hb, hp, hw, fun h => hv ▸ h, fun h => hl.elim (fun he => he ▸ h) id⟩

theorem Quiet.setReg (s : State) (r : Reg) (v : Byte) : Quiet s (s.setReg r v) :=
  Quiet.of_slots (by simp) (by simp) (by simp) (by simp) (by simp) (by simp) (by simp) (Or.inl (by simp))

theorem Quiet.setA (s : State) (v : Byte) : Quiet s (s.setA v) := Quiet.setReg s .a v

theorem Quiet.setFlags (s : State) (fl : Flags) : Quiet s (s.setFlags fl) :=
  Quiet.of_slots rfl rfl rfl rfl rfl rfl rfl (Or.inr (by rw [State.setFlags_f, Flags.toByte_low]))

theorem Quiet.setPair (s : State) (p : Pair) (v : Word) : Quiet s (s.setPair p v) :=
  Quiet.of_slots (by simp) (by simp) (by simp) (by simp) (by simp) (by simp) (by simp) (Or.inl (by simp))

theorem Quiet.setHL (s : State) (v : Word) : Quiet s (s.setHL v) := Quiet.setPair s .hl v
theorem Quiet.setSP (s : State) (v : Word) : Quiet s (s.setSP v) := Quiet.setPair s .sp v

theorem Quiet.setPC (s : State) (v : Word) : Quiet s (s.setPC v) :=
  Quiet.of_slots rfl rfl rfl rfl rfl rfl rfl (Or.inl rfl)

theorem Quiet.setAF (s : State) (v : Word) : Quiet s (s.setAF v) :=
  Quiet.of_slots rfl rfl rfl rfl rfl rfl rfl (Or.inr (by rw [State.setAF_f]; exact and_F0_and_0F _))

theorem Quiet.setStackPair (s : State) (q : StackPair) (v : Word) : Quiet s (s.setStackPair q v) := by
  cases q
  · exact Quiet.setPair s .bc v
  · exact Quiet.setPair s .de v
  · exact Quiet.setPair s .hl v
  · exact Quiet.setAF s v

theorem Quiet.write8 {s t : State} {a : Word} {v : Byte} (h : s.write8 a v = .ok t) : Quiet s t := by
  rcases State.write8_ok h with ⟨k, hk, rfl⟩ | ⟨_, rfl⟩
  · exact ⟨rfl, rfl, rfl, rfl, rfl, rfl, fun hw => Memory.wf_writeCell hw v (route_videoMemory_lt hk), id⟩
  · exact Quiet.refl _

theorem Quiet.write16 {s t : State} {a v : Word} (h : s.write16 a v = .ok t) : Quiet s t := by
  obtain ⟨m, h1, h2⟩ := State.write16_ok h
  exact (Quiet.write8 h1).trans (Quiet.write8 h2)

theorem Quiet.write16_error {s t : State} {a v : Word} {e : Fault} (h : s.write16 a v = .error (e, t)) : Quiet s t := by
  rcases State.write16_error h with ⟨_, rfl⟩ | ⟨_, h1⟩
  · exact Quiet.refl _
  · exact Quiet.write8 h1

theorem Quiet.push {s t : State} {v : Word} (h : s.push v = .ok t) : Quiet s t :=
  (Quiet.setSP s _).trans (Quiet.write16 h)

theorem Quiet.push_error {s t : State} {v : Word} {e : Fault} (h : s.push v = .error (e, t)) : Quiet s t :=
  (Quiet.setSP s _).trans (Quiet.write16_error h)

theorem Quiet.pop {s t : State} {v : Word} (h : s.pop = .ok (v, t)) : Quiet s t :=
  (State.pop_ok h).2 ▸ Quiet.setSP s _

/-- How an instruction ends: completed at a cost of 1 to 6 after quiet writes, or raised after quiet writes. -/
inductive Ends (s : State) : Result → Prop where
  | completed {u : State} {cost : Nat} (h : Quiet s u) (h₁ : 1 ≤ cost) (h₆ : cost ≤ 6) : Ends s (complete cost u)
  | raised {u : State} {e : Fault} (h : Quiet s u) : Ends s (raise e u)

theorem Ends.of_quiet {s u : State} {r : Result} (h : Quiet s u) (he : Ends u r) : Ends s r := by
  cases he with
  | completed h' h₁ h₆ => exact .completed (h.trans h') h₁ h₆
  | raised h' => exact .raised (h.trans h')

theorem Ends.withByte {s : State} {a : Word} {k : Byte → State → Result} (h : ∀ v, Ends s (k v s)) :
    Ends s (withByte a k s) := by
  unfold Machine.withByte
  split
  · exact h _
  · exact .raised (Quiet.refl s)

theorem Ends.storeByte {s : State} {a : Word} {v : Byte} {k : State → Result}
    (h : ∀ t, Quiet s t → Ends s (k t)) : Ends s (storeByte a v k s) := by
  unfold Machine.storeByte
  split
  · rename_i t ht
    exact h t (Quiet.write8 ht)
  · exact .raised (Quiet.refl s)

theorem Ends.modifyAtHL {s : State} {f : Byte → Byte} {after : Byte → State → State} {cost : Nat}
    (ha : ∀ v u, Quiet u (after v u)) (h₁ : 1 ≤ cost) (h₆ : cost ≤ 6) : Ends s (modifyAtHL f after cost s) :=
  .withByte fun v => .storeByte fun t ht => .completed (ht.trans (ha v t)) h₁ h₆

theorem Ends.load {s : State} {dst : Reg} {a : Word} {cost : Nat} (h₁ : 1 ≤ cost) (h₆ : cost ≤ 6) :
    Ends s (loadOp dst a cost s) := .withByte fun _ => .completed (Quiet.setReg s _ _) h₁ h₆

theorem Ends.store {s : State} {a : Word} {v : Byte} {cost : Nat} (h₁ : 1 ≤ cost) (h₆ : cost ≤ 6) :
    Ends s (storeOp a v cost s) := .storeByte fun _ ht => .completed ht h₁ h₆

theorem Ends.loadStep {s : State} {delta : Word} {cost : Nat} (h₁ : 1 ≤ cost) (h₆ : cost ≤ 6) :
    Ends s (loadStepOp delta cost s) :=
  .withByte fun v => .completed ((Quiet.setA s v).trans (Quiet.setHL _ _)) h₁ h₆

theorem Ends.storeStep {s : State} {delta : Word} {cost : Nat} (h₁ : 1 ≤ cost) (h₆ : cost ≤ 6) :
    Ends s (storeStepOp delta cost s) :=
  .storeByte fun t ht => .completed (ht.trans (Quiet.setHL t _)) h₁ h₆

theorem Ends.call {s : State} {target : Word} {cost : Nat} (h₁ : 1 ≤ cost) (h₆ : cost ≤ 6) :
    Ends s (callOp target cost s) := by
  unfold callOp
  split
  · rename_i t ht
    exact .completed ((Quiet.push ht).trans (Quiet.setPC t target)) h₁ h₆
  · rename_i e t ht
    exact .raised (Quiet.push_error ht)

theorem Ends.ret {s : State} {cost : Nat} (h₁ : 1 ≤ cost) (h₆ : cost ≤ 6) : Ends s (retOp cost s) := by
  unfold retOp
  split
  · rename_i v t ht
    exact .completed ((Quiet.pop ht).trans (Quiet.setPC t v)) h₁ h₆
  · exact .raised (Quiet.refl s)

theorem Ends.jump {s : State} {target : Word} {cost : Nat} (h₁ : 1 ≤ cost) (h₆ : cost ≤ 6) :
    Ends s (jumpOp target cost s) := .completed (Quiet.setPC s target) h₁ h₆

theorem Ends.when {s : State} {cc : Cond} {taken : State → Result} {cost : Nat} (ht : Ends s (taken s)) (h₁ : 1 ≤ cost)
    (h₆ : cost ≤ 6) : Ends s (whenOp cc taken cost s) := by
  unfold whenOp
  split
  · exact ht
  · exact .completed (Quiet.refl s) h₁ h₆

theorem Quiet.applyAlu (op : AluOp) (v : Byte) (s : State) : Quiet s (applyAlu op v s) := by
  unfold Machine.applyAlu
  cases op
  case cp => exact Quiet.setFlags s _
  all_goals exact (Quiet.setA s _).trans (Quiet.setFlags _ _)

theorem Quiet.applyBit (b : Fin 8) (v : Byte) (s : State) : Quiet s (applyBit b v s) := by
  unfold Machine.applyBit
  split
  · exact (Quiet.setFlags s _).trans (Quiet.setA _ _)
  · exact Quiet.setFlags s _

/-- HALT and STOP, the two instructions that also set `halted` (rule R253, rule R254). -/
def Instr.halts (i : Instr) : Bool :=
  match i with
  | .halt => true
  | .stop _ => true
  | _ => false

/-- Every instruction but HALT and STOP ends so. -/
theorem exec_ends (i : Instr) (s : State) (hi : Instr.halts i = false) : Ends s (exec i s) := by
  revert hi
  induction i using Instr.byFamily with
  | h_ldRegReg dst src => intro _; rw [exec_ldRegReg]; exact .completed (Quiet.setReg s _ _) (by decide) (by decide)
  | h_ldRegInd dst =>
    intro _; rw [exec_ldRegInd]; exact .load (by decide) (by decide)
  | h_ldIndReg src => intro _; rw [exec_ldIndReg]; exact .store (by decide) (by decide)
  | h_ldRegImm dst n => intro _; rw [exec_ldRegImm]; exact .completed (Quiet.setReg s _ _) (by decide) (by decide)
  | h_ldPairImm rr w => intro _; rw [exec_ldPairImm]; exact .completed (Quiet.setPair s _ _) (by decide) (by decide)
  | h_pushPair qq =>
    intro _; rw [exec_pushPair, pushOp]
    split
    · rename_i t ht; exact .completed (Quiet.push ht) (by decide) (by decide)
    · rename_i e t ht; exact .raised (Quiet.push_error ht)
  | h_popPair qq =>
    intro _; rw [exec_popPair, popOp]
    split
    · rename_i v t ht; exact .completed ((Quiet.pop ht).trans (Quiet.setStackPair t _ _)) (by decide) (by decide)
    · exact .raised (Quiet.refl s)
  | h_aluReg op r => intro _; rw [exec_aluReg]; exact .completed (Quiet.applyAlu op _ s) (by decide) (by decide)
  | h_aluInd op =>
    intro _; rw [exec_aluInd]
    exact .withByte fun v => .completed (Quiet.applyAlu op v s) (by decide) (by decide)
  | h_aluImm op n => intro _; rw [exec_aluImm]; exact .completed (Quiet.applyAlu op n s) (by decide) (by decide)
  | h_incReg dst =>
    intro _; rw [exec_incReg]
    exact .completed ((Quiet.setReg s _ _).trans (Quiet.setFlags _ _)) (by decide) (by decide)
  | h_decReg dst =>
    intro _; rw [exec_decReg]
    exact .completed ((Quiet.setReg s _ _).trans (Quiet.setFlags _ _)) (by decide) (by decide)
  | h_incPair rr => intro _; rw [exec_incPair]; exact .completed (Quiet.setPair s _ _) (by decide) (by decide)
  | h_decPair rr => intro _; rw [exec_decPair]; exact .completed (Quiet.setPair s _ _) (by decide) (by decide)
  | h_addHLPair rr =>
    intro _; rw [exec_addHLPair]
    exact .completed ((Quiet.setFlags s _).trans (Quiet.setHL _ _)) (by decide) (by decide)
  | h_rotReg op r =>
    intro _; rw [exec_rotReg]
    exact .completed ((Quiet.setReg s _ _).trans (Quiet.setFlags _ _)) (by decide) (by decide)
  | h_rotInd op => intro _; rw [exec_rotInd]; exact .modifyAtHL (fun v u => Quiet.setFlags u _) (by decide) (by decide)
  | h_bitReg b r => intro _; rw [exec_bitReg]; exact .completed (Quiet.applyBit b _ s) (by decide) (by decide)
  | h_bitInd b =>
    intro _; rw [exec_bitInd]
    exact .withByte fun v => .completed (Quiet.applyBit b v s) (by decide) (by decide)
  | h_resReg b r => intro _; rw [exec_resReg]; exact .completed (Quiet.setReg s _ _) (by decide) (by decide)
  | h_resInd b => intro _; rw [exec_resInd]; exact .modifyAtHL (fun v u => Quiet.refl u) (by decide) (by decide)
  | h_setReg b r => intro _; rw [exec_setReg]; exact .completed (Quiet.setReg s _ _) (by decide) (by decide)
  | h_setInd b => intro _; rw [exec_setInd]; exact .modifyAtHL (fun v u => Quiet.refl u) (by decide) (by decide)
  | h_jrCond cc e => intro _; rw [exec_jrCond]; exact .when (.jump (by decide) (by decide)) (by decide) (by decide)
  | h_jpCond cc w => intro _; rw [exec_jpCond]; exact .when (.jump (by decide) (by decide)) (by decide) (by decide)
  | h_callCond cc w => intro _; rw [exec_callCond]; exact .when (.call (by decide) (by decide)) (by decide) (by decide)
  | h_retCond cc => intro _; rw [exec_retCond]; exact .when (.ret (by decide) (by decide)) (by decide) (by decide)
  | h_rst k => intro _; rw [exec_rst]; exact .call (by decide) (by decide)
  | h_halt => intro h; exact absurd h (by decide)
  | h_stop x => intro h; cases h
  | h_ldIndA16SP w =>
    intro _; rw [exec_ldIndA16SP, storeSPOp]
    split
    · rename_i t ht; exact .completed (Quiet.write16 ht) (by decide) (by decide)
    · rename_i e t ht; exact .raised (Quiet.write16_error ht)
  | h_ldAIndBC => intro _; rw [exec_ldAIndBC]; exact .load (by decide) (by decide)
  | h_ldAIndDE => intro _; rw [exec_ldAIndDE]; exact .load (by decide) (by decide)
  | h_ldAIndA16 w => intro _; rw [exec_ldAIndA16]; exact .load (by decide) (by decide)
  | h_ldhAIndA8 n => intro _; rw [exec_ldhAIndA8]; exact .load (by decide) (by decide)
  | h_ldAIndC => intro _; rw [exec_ldAIndC]; exact .load (by decide) (by decide)
  | h_ldAIndHLInc => intro _; rw [exec_ldAIndHLInc]; exact .loadStep (by decide) (by decide)
  | h_ldAIndHLDec => intro _; rw [exec_ldAIndHLDec]; exact .loadStep (by decide) (by decide)
  | h_ldIndBCA => intro _; rw [exec_ldIndBCA]; exact .store (by decide) (by decide)
  | h_ldIndDEA => intro _; rw [exec_ldIndDEA]; exact .store (by decide) (by decide)
  | h_ldIndA16A w => intro _; rw [exec_ldIndA16A]; exact .store (by decide) (by decide)
  | h_ldhIndA8A n => intro _; rw [exec_ldhIndA8A]; exact .store (by decide) (by decide)
  | h_ldIndCA => intro _; rw [exec_ldIndCA]; exact .store (by decide) (by decide)
  | h_ldIndHLD8 n => intro _; rw [exec_ldIndHLD8]; exact .store (by decide) (by decide)
  | h_ldIndHLIncA => intro _; rw [exec_ldIndHLIncA]; exact .storeStep (by decide) (by decide)
  | h_ldIndHLDecA => intro _; rw [exec_ldIndHLDecA]; exact .storeStep (by decide) (by decide)
  | h_ldSPHL => intro _; rw [exec_ldSPHL]; exact .completed (Quiet.setSP s _) (by decide) (by decide)
  | h_ldHLSPE8 e => intro _; rw [exec_ldHLSPE8]; exact .completed ((Quiet.setFlags s _).trans (Quiet.setHL _ _)) (by decide) (by decide)
  | h_addSPE8 e => intro _; rw [exec_addSPE8]; exact .completed ((Quiet.setFlags s _).trans (Quiet.setSP _ _)) (by decide) (by decide)
  | h_incIndHL => intro _; rw [exec_incIndHL]; exact .modifyAtHL (fun v u => Quiet.setFlags u _) (by decide) (by decide)
  | h_decIndHL => intro _; rw [exec_decIndHL]; exact .modifyAtHL (fun v u => Quiet.setFlags u _) (by decide) (by decide)
  | h_daa => intro _; rw [exec_daa]; exact .completed ((Quiet.setA s _).trans (Quiet.setFlags _ _)) (by decide) (by decide)
  | h_cpl => intro _; rw [exec_cpl]; exact .completed ((Quiet.setA s _).trans (Quiet.setFlags _ _)) (by decide) (by decide)
  | h_scf => intro _; rw [exec_scf]; exact .completed (Quiet.setFlags s _) (by decide) (by decide)
  | h_ccf => intro _; rw [exec_ccf]; exact .completed (Quiet.setFlags s _) (by decide) (by decide)
  | h_rlca => intro _; rw [exec_rlca]; exact .completed ((Quiet.setA s _).trans (Quiet.setFlags _ _)) (by decide) (by decide)
  | h_rrca => intro _; rw [exec_rrca]; exact .completed ((Quiet.setA s _).trans (Quiet.setFlags _ _)) (by decide) (by decide)
  | h_rla => intro _; rw [exec_rla]; exact .completed ((Quiet.setA s _).trans (Quiet.setFlags _ _)) (by decide) (by decide)
  | h_rra => intro _; rw [exec_rra]; exact .completed ((Quiet.setA s _).trans (Quiet.setFlags _ _)) (by decide) (by decide)
  | h_jrE8 e => intro _; rw [exec_jrE8]; exact .jump (by decide) (by decide)
  | h_jpA16 w => intro _; rw [exec_jpA16]; exact .jump (by decide) (by decide)
  | h_jpHL => intro _; rw [exec_jpHL]; exact .jump (by decide) (by decide)
  | h_callA16 w => intro _; rw [exec_callA16]; exact .call (by decide) (by decide)
  | h_ret => intro _; rw [exec_ret]; exact .ret (by decide) (by decide)
  | h_reti => intro _; rw [exec_reti]; exact .ret (by decide) (by decide)
  | h_nop => intro _; rw [exec_nop]; exact .completed (Quiet.refl s) (by decide) (by decide)
  | h_di => intro _; rw [exec_di]; exact .completed (Quiet.refl s) (by decide) (by decide)
  | h_ei => intro _; rw [exec_ei]; exact .completed (Quiet.refl s) (by decide) (by decide)
  | h_unmappedD3 => intro _; rw [exec_unmappedD3]; exact .raised (Quiet.refl s)
  | h_unmappedDB => intro _; rw [exec_unmappedDB]; exact .raised (Quiet.refl s)
  | h_unmappedDD => intro _; rw [exec_unmappedDD]; exact .raised (Quiet.refl s)
  | h_unmappedE3 => intro _; rw [exec_unmappedE3]; exact .raised (Quiet.refl s)
  | h_unmappedE4 => intro _; rw [exec_unmappedE4]; exact .raised (Quiet.refl s)
  | h_unmappedEB => intro _; rw [exec_unmappedEB]; exact .raised (Quiet.refl s)
  | h_unmappedEC => intro _; rw [exec_unmappedEC]; exact .raised (Quiet.refl s)
  | h_unmappedED => intro _; rw [exec_unmappedED]; exact .raised (Quiet.refl s)
  | h_unmappedF4 => intro _; rw [exec_unmappedF4]; exact .raised (Quiet.refl s)
  | h_unmappedFC => intro _; rw [exec_unmappedFC]; exact .raised (Quiet.refl s)
  | h_unmappedFD => intro _; rw [exec_unmappedFD]; exact .raised (Quiet.refl s)

end Sys2Proof.Machine
end

