-- ==== Sys2Proof/Laws/Fetch.lean ====
section
/-! SUPPORT. What decoding and fetching can answer, said once: how a decoded sequence opens, what a fetch changes, and that a
step always has a next state. -/

namespace Sys2Proof

/-! ### Decoding -/

/-- Only the prefix opens the extended table. -/
theorem decodePrimary_prefixed {op : Byte} (h : decodePrimary op = .prefixed) : op = 0xCB := by
  have key : ∀ o : Byte, (match decodePrimary o with | .prefixed => decide (o = 0xCB) | _ => true) = true := by decide
  have := key op
  rw [h] at this
  simpa using this

/-- A sequence that decodes to an instruction with nothing left over opens in one of four ways. -/
theorem decode_cases {bytes : List Byte} {i : Instr} (h : decode bytes = .ok (i, [])) :
    ∃ op rest, bytes = op :: rest ∧
      ((decodePrimary op = .plain i ∧ rest = []) ∨
        (∃ f n, decodePrimary op = .imm8 f ∧ rest = [n] ∧ i = f n) ∨
        (∃ f lo hi, decodePrimary op = .imm16 f ∧ rest = [lo, hi] ∧ i = f (immWord lo hi)) ∨
        ∃ ext, decodePrimary op = .prefixed ∧ op = 0xCB ∧ rest = [ext] ∧ i = decodeExtended ext) := by
  unfold decode at h
  cases bytes with
  | nil => simp at h
  | cons op rest =>
    refine ⟨op, rest, rfl, ?_⟩
    simp only at h
    split at h <;> simp at h <;> (try obtain ⟨rfl, rfl⟩ := h) <;> simp_all
    exact decodePrimary_prefixed (by assumption)

/-- A well-formed instruction's bytes: neither its opcode nor its extended opcode is left out of the build's tables. -/
theorem WellFormed.bytes {p : Params} {i : Instr} (h : WellFormed p i = true) :
    ∃ op rest, encode i = op :: rest ∧ p.leavesOutPrimary op = false ∧
      (op = 0xCB → ∃ ext tail, rest = ext :: tail ∧ p.leavesOutExtended ext = false) := by
  unfold WellFormed at h
  cases he : encode i with
  | nil => simp [he] at h
  | cons op rest =>
    refine ⟨op, rest, rfl, ?_, ?_⟩
    · simp only [he] at h
      split at h
      · simp_all [Params.leavesOutPrimary]
      · simp_all [Params.mapsPrimary]
    · rintro rfl
      simp only [he, if_true] at h
      cases rest with
      | nil => simp at h
      | cons ext tail => exact ⟨ext, tail, rfl, by simpa [Params.mapsExtended] using h⟩

namespace Machine

/-! ### Fetching -/

theorem fetch8_of_read8 {s : State} {v : Byte} (h : s.read8 s.pc = .ok v) : fetch8 s = .ok (v, s.setPC (s.pc + 1)) := by
  unfold fetch8
  rw [h]

theorem fetch8_of_unreadable {s : State} (h : ∀ v, s.read8 s.pc ≠ .ok v) : fetch8 s = .error (.accessError s.pc .read) := by
  unfold fetch8
  cases hr : s.read8 s.pc with
  | ok v => exact absurd hr (h v)
  | error e => simp [State.read8_error hr]

/-- A fetch that answers a byte read it at `PC` and moved `PC` alone. -/
theorem fetch8_ok {s t : State} {v : Byte} (h : fetch8 s = .ok (v, t)) : s.read8 s.pc = .ok v ∧ t = s.setPC (s.pc + 1) := by
  unfold fetch8 at h
  split at h
  · simp only [Except.ok.injEq, Prod.mk.injEq] at h
    obtain ⟨rfl, rfl⟩ := h
    exact ⟨by assumption, rfl⟩
  · simp at h

/-- Fetching an instruction changes nothing but `PC`, whether it ends with the instruction or with an error. -/
theorem fetchInstr_pc (s : State) :
    (∀ i t, fetchInstr s = .got i t → ∃ pc, t = s.setPC pc) ∧ ∀ e t, fetchInstr s = .raised e t → ∃ pc, t = s.setPC pc := by
  have key : ∀ u, (∃ pc, u = s.setPC pc) → ∀ v w, fetch8 u = .ok (v, w) → ∃ pc, w = s.setPC pc := by
    rintro u ⟨pc, rfl⟩ v w h
    obtain ⟨_, rfl⟩ := fetch8_ok h
    exact ⟨_, rfl⟩
  have k0 : ∃ pc, s = s.setPC pc := ⟨s.pc, rfl⟩
  unfold fetchInstr fetchImm8 fetchImm16 fetchExtended
  constructor <;> intro x t h
  all_goals
    repeat' split at h
    all_goals first
      | (simp only [Fetched.got.injEq, Fetched.raised.injEq] at h; obtain ⟨_, rfl⟩ := h; grind)
      | (exfalso; simp at h)

/-! ### Next states -/

/-- HALT and STOP set `halted`, cost 1 and change nothing else. -/
theorem exec_halts {i : Instr} {s : State} (h : Instr.halts i = true) :
    exec i s = .next { s with halted := true, counter := 0 } := by
  cases i <;> first | (simp [Instr.halts] at h; done) | rfl

/-- An instruction always answers a next state. -/
theorem exec_next (i : Instr) (s : State) : ∃ t, exec i s = .next t := by
  by_cases h : Instr.halts i = true
  · exact ⟨_, exec_halts h⟩
  · have he := exec_ends i s (by simpa using h)
    generalize exec i s = r at he
    cases he <;> exact ⟨_, rfl⟩

end Machine

end Sys2Proof
end

