-- ==== Sys2Proof/Tests/Slice0.lean ====
section
/-! SUPPORT. The model's own tests. Every expected result is the spec's: an encoding of spec/opcode_table.json, a vector of
spec/95_test_vectors.md, or the rule a docstring cites. The last part shows, for each statement with hypotheses, a concrete
state and operands that meet them. -/

namespace Sys2Proof.Tests

open Sys2Proof.Machine Sys2Proof.Claims

/-! ### Decoding: one word for every instruction (spec/opcode_table.json), with the immediates 0x34 and 0x12 -/

theorem test_decode_primary_row_0 :
    decode [0x00] = .ok (.nop, []) ∧ decode [0x01, 0x34, 0x12] = .ok (.ldBCD16 0x1234, []) ∧
    decode [0x02] = .ok (.ldIndBCA, []) ∧ decode [0x03] = .ok (.incBC, []) ∧
    decode [0x04] = .ok (.incB, []) ∧ decode [0x05] = .ok (.decB, []) ∧
    decode [0x06, 0x34] = .ok (.ldBD8 0x34, []) ∧ decode [0x07] = .ok (.rlca, []) ∧
    decode [0x08, 0x34, 0x12] = .ok (.ldIndA16SP 0x1234, []) ∧ decode [0x09] = .ok (.addHLBC, []) ∧
    decode [0x0A] = .ok (.ldAIndBC, []) ∧ decode [0x0B] = .ok (.decBC, []) ∧
    decode [0x0C] = .ok (.incC, []) ∧ decode [0x0D] = .ok (.decC, []) ∧
    decode [0x0E, 0x34] = .ok (.ldCD8 0x34, []) ∧ decode [0x0F] = .ok (.rrca, []) :=
  ⟨rfl, rfl, rfl, rfl, rfl, rfl, rfl, rfl, rfl, rfl, rfl, rfl, rfl, rfl, rfl, rfl⟩

theorem test_decode_primary_row_1 :
    decode [0x10, 0x34] = .ok (.stop 0x34, []) ∧ decode [0x11, 0x34, 0x12] = .ok (.ldDED16 0x1234, []) ∧
    decode [0x12] = .ok (.ldIndDEA, []) ∧ decode [0x13] = .ok (.incDE, []) ∧
    decode [0x14] = .ok (.incD, []) ∧ decode [0x15] = .ok (.decD, []) ∧
    decode [0x16, 0x34] = .ok (.ldDD8 0x34, []) ∧ decode [0x17] = .ok (.rla, []) ∧
    decode [0x18, 0x34] = .ok (.jrE8 0x34, []) ∧ decode [0x19] = .ok (.addHLDE, []) ∧
    decode [0x1A] = .ok (.ldAIndDE, []) ∧ decode [0x1B] = .ok (.decDE, []) ∧
    decode [0x1C] = .ok (.incE, []) ∧ decode [0x1D] = .ok (.decE, []) ∧
    decode [0x1E, 0x34] = .ok (.ldED8 0x34, []) ∧ decode [0x1F] = .ok (.rra, []) :=
  ⟨rfl, rfl, rfl, rfl, rfl, rfl, rfl, rfl, rfl, rfl, rfl, rfl, rfl, rfl, rfl, rfl⟩

theorem test_decode_primary_row_2 :
    decode [0x20, 0x34] = .ok (.jrNZE8 0x34, []) ∧ decode [0x21, 0x34, 0x12] = .ok (.ldHLD16 0x1234, []) ∧
    decode [0x22] = .ok (.ldIndHLIncA, []) ∧ decode [0x23] = .ok (.incHL, []) ∧
    decode [0x24] = .ok (.incH, []) ∧ decode [0x25] = .ok (.decH, []) ∧
    decode [0x26, 0x34] = .ok (.ldHD8 0x34, []) ∧ decode [0x27] = .ok (.daa, []) ∧
    decode [0x28, 0x34] = .ok (.jrZE8 0x34, []) ∧ decode [0x29] = .ok (.addHLHL, []) ∧
    decode [0x2A] = .ok (.ldAIndHLInc, []) ∧ decode [0x2B] = .ok (.decHL, []) ∧
    decode [0x2C] = .ok (.incL, []) ∧ decode [0x2D] = .ok (.decL, []) ∧
    decode [0x2E, 0x34] = .ok (.ldLD8 0x34, []) ∧ decode [0x2F] = .ok (.cpl, []) :=
  ⟨rfl, rfl, rfl, rfl, rfl, rfl, rfl, rfl, rfl, rfl, rfl, rfl, rfl, rfl, rfl, rfl⟩

theorem test_decode_primary_row_3 :
    decode [0x30, 0x34] = .ok (.jrNCE8 0x34, []) ∧ decode [0x31, 0x34, 0x12] = .ok (.ldSPD16 0x1234, []) ∧
    decode [0x32] = .ok (.ldIndHLDecA, []) ∧ decode [0x33] = .ok (.incSP, []) ∧
    decode [0x34] = .ok (.incIndHL, []) ∧ decode [0x35] = .ok (.decIndHL, []) ∧
    decode [0x36, 0x34] = .ok (.ldIndHLD8 0x34, []) ∧ decode [0x37] = .ok (.scf, []) ∧
    decode [0x38, 0x34] = .ok (.jrCE8 0x34, []) ∧ decode [0x39] = .ok (.addHLSP, []) ∧
    decode [0x3A] = .ok (.ldAIndHLDec, []) ∧ decode [0x3B] = .ok (.decSP, []) ∧
    decode [0x3C] = .ok (.incA, []) ∧ decode [0x3D] = .ok (.decA, []) ∧
    decode [0x3E, 0x34] = .ok (.ldAD8 0x34, []) ∧ decode [0x3F] = .ok (.ccf, []) :=
  ⟨rfl, rfl, rfl, rfl, rfl, rfl, rfl, rfl, rfl, rfl, rfl, rfl, rfl, rfl, rfl, rfl⟩

theorem test_decode_primary_row_4 :
    decode [0x40] = .ok (.ldBB, []) ∧ decode [0x41] = .ok (.ldBC, []) ∧
    decode [0x42] = .ok (.ldBD, []) ∧ decode [0x43] = .ok (.ldBE, []) ∧
    decode [0x44] = .ok (.ldBH, []) ∧ decode [0x45] = .ok (.ldBL, []) ∧
    decode [0x46] = .ok (.ldBIndHL, []) ∧ decode [0x47] = .ok (.ldBA, []) ∧
    decode [0x48] = .ok (.ldCB, []) ∧ decode [0x49] = .ok (.ldCC, []) ∧
    decode [0x4A] = .ok (.ldCD, []) ∧ decode [0x4B] = .ok (.ldCE, []) ∧
    decode [0x4C] = .ok (.ldCH, []) ∧ decode [0x4D] = .ok (.ldCL, []) ∧
    decode [0x4E] = .ok (.ldCIndHL, []) ∧ decode [0x4F] = .ok (.ldCA, []) :=
  ⟨rfl, rfl, rfl, rfl, rfl, rfl, rfl, rfl, rfl, rfl, rfl, rfl, rfl, rfl, rfl, rfl⟩

theorem test_decode_primary_row_5 :
    decode [0x50] = .ok (.ldDB, []) ∧ decode [0x51] = .ok (.ldDC, []) ∧
    decode [0x52] = .ok (.ldDD, []) ∧ decode [0x53] = .ok (.ldDE, []) ∧
    decode [0x54] = .ok (.ldDH, []) ∧ decode [0x55] = .ok (.ldDL, []) ∧
    decode [0x56] = .ok (.ldDIndHL, []) ∧ decode [0x57] = .ok (.ldDA, []) ∧
    decode [0x58] = .ok (.ldEB, []) ∧ decode [0x59] = .ok (.ldEC, []) ∧
    decode [0x5A] = .ok (.ldED, []) ∧ decode [0x5B] = .ok (.ldEE, []) ∧
    decode [0x5C] = .ok (.ldEH, []) ∧ decode [0x5D] = .ok (.ldEL, []) ∧
    decode [0x5E] = .ok (.ldEIndHL, []) ∧ decode [0x5F] = .ok (.ldEA, []) :=
  ⟨rfl, rfl, rfl, rfl, rfl, rfl, rfl, rfl, rfl, rfl, rfl, rfl, rfl, rfl, rfl, rfl⟩

theorem test_decode_primary_row_6 :
    decode [0x60] = .ok (.ldHB, []) ∧ decode [0x61] = .ok (.ldHC, []) ∧
    decode [0x62] = .ok (.ldHD, []) ∧ decode [0x63] = .ok (.ldHE, []) ∧
    decode [0x64] = .ok (.ldHH, []) ∧ decode [0x65] = .ok (.ldHL, []) ∧
    decode [0x66] = .ok (.ldHIndHL, []) ∧ decode [0x67] = .ok (.ldHA, []) ∧
    decode [0x68] = .ok (.ldLB, []) ∧ decode [0x69] = .ok (.ldLC, []) ∧
    decode [0x6A] = .ok (.ldLD, []) ∧ decode [0x6B] = .ok (.ldLE, []) ∧
    decode [0x6C] = .ok (.ldLH, []) ∧ decode [0x6D] = .ok (.ldLL, []) ∧
    decode [0x6E] = .ok (.ldLIndHL, []) ∧ decode [0x6F] = .ok (.ldLA, []) :=
  ⟨rfl, rfl, rfl, rfl, rfl, rfl, rfl, rfl, rfl, rfl, rfl, rfl, rfl, rfl, rfl, rfl⟩

theorem test_decode_primary_row_7 :
    decode [0x70] = .ok (.ldIndHLB, []) ∧ decode [0x71] = .ok (.ldIndHLC, []) ∧
    decode [0x72] = .ok (.ldIndHLD, []) ∧ decode [0x73] = .ok (.ldIndHLE, []) ∧
    decode [0x74] = .ok (.ldIndHLH, []) ∧ decode [0x75] = .ok (.ldIndHLL, []) ∧
    decode [0x76] = .ok (.halt, []) ∧ decode [0x77] = .ok (.ldIndHLA, []) ∧
    decode [0x78] = .ok (.ldAB, []) ∧ decode [0x79] = .ok (.ldAC, []) ∧
    decode [0x7A] = .ok (.ldAD, []) ∧ decode [0x7B] = .ok (.ldAE, []) ∧
    decode [0x7C] = .ok (.ldAH, []) ∧ decode [0x7D] = .ok (.ldAL, []) ∧
    decode [0x7E] = .ok (.ldAIndHL, []) ∧ decode [0x7F] = .ok (.ldAA, []) :=
  ⟨rfl, rfl, rfl, rfl, rfl, rfl, rfl, rfl, rfl, rfl, rfl, rfl, rfl, rfl, rfl, rfl⟩

theorem test_decode_primary_row_8 :
    decode [0x80] = .ok (.addAB, []) ∧ decode [0x81] = .ok (.addAC, []) ∧
    decode [0x82] = .ok (.addAD, []) ∧ decode [0x83] = .ok (.addAE, []) ∧
    decode [0x84] = .ok (.addAH, []) ∧ decode [0x85] = .ok (.addAL, []) ∧
    decode [0x86] = .ok (.addAIndHL, []) ∧ decode [0x87] = .ok (.addAA, []) ∧
    decode [0x88] = .ok (.adcAB, []) ∧ decode [0x89] = .ok (.adcAC, []) ∧
    decode [0x8A] = .ok (.adcAD, []) ∧ decode [0x8B] = .ok (.adcAE, []) ∧
    decode [0x8C] = .ok (.adcAH, []) ∧ decode [0x8D] = .ok (.adcAL, []) ∧
    decode [0x8E] = .ok (.adcAIndHL, []) ∧ decode [0x8F] = .ok (.adcAA, []) :=
  ⟨rfl, rfl, rfl, rfl, rfl, rfl, rfl, rfl, rfl, rfl, rfl, rfl, rfl, rfl, rfl, rfl⟩

theorem test_decode_primary_row_9 :
    decode [0x90] = .ok (.subAB, []) ∧ decode [0x91] = .ok (.subAC, []) ∧
    decode [0x92] = .ok (.subAD, []) ∧ decode [0x93] = .ok (.subAE, []) ∧
    decode [0x94] = .ok (.subAH, []) ∧ decode [0x95] = .ok (.subAL, []) ∧
    decode [0x96] = .ok (.subAIndHL, []) ∧ decode [0x97] = .ok (.subAA, []) ∧
    decode [0x98] = .ok (.sbcAB, []) ∧ decode [0x99] = .ok (.sbcAC, []) ∧
    decode [0x9A] = .ok (.sbcAD, []) ∧ decode [0x9B] = .ok (.sbcAE, []) ∧
    decode [0x9C] = .ok (.sbcAH, []) ∧ decode [0x9D] = .ok (.sbcAL, []) ∧
    decode [0x9E] = .ok (.sbcAIndHL, []) ∧ decode [0x9F] = .ok (.sbcAA, []) :=
  ⟨rfl, rfl, rfl, rfl, rfl, rfl, rfl, rfl, rfl, rfl, rfl, rfl, rfl, rfl, rfl, rfl⟩

theorem test_decode_primary_row_A :
    decode [0xA0] = .ok (.andAB, []) ∧ decode [0xA1] = .ok (.andAC, []) ∧
    decode [0xA2] = .ok (.andAD, []) ∧ decode [0xA3] = .ok (.andAE, []) ∧
    decode [0xA4] = .ok (.andAH, []) ∧ decode [0xA5] = .ok (.andAL, []) ∧
    decode [0xA6] = .ok (.andAIndHL, []) ∧ decode [0xA7] = .ok (.andAA, []) ∧
    decode [0xA8] = .ok (.xorAB, []) ∧ decode [0xA9] = .ok (.xorAC, []) ∧
    decode [0xAA] = .ok (.xorAD, []) ∧ decode [0xAB] = .ok (.xorAE, []) ∧
    decode [0xAC] = .ok (.xorAH, []) ∧ decode [0xAD] = .ok (.xorAL, []) ∧
    decode [0xAE] = .ok (.xorAIndHL, []) ∧ decode [0xAF] = .ok (.xorAA, []) :=
  ⟨rfl, rfl, rfl, rfl, rfl, rfl, rfl, rfl, rfl, rfl, rfl, rfl, rfl, rfl, rfl, rfl⟩

theorem test_decode_primary_row_B :
    decode [0xB0] = .ok (.orAB, []) ∧ decode [0xB1] = .ok (.orAC, []) ∧
    decode [0xB2] = .ok (.orAD, []) ∧ decode [0xB3] = .ok (.orAE, []) ∧
    decode [0xB4] = .ok (.orAH, []) ∧ decode [0xB5] = .ok (.orAL, []) ∧
    decode [0xB6] = .ok (.orAIndHL, []) ∧ decode [0xB7] = .ok (.orAA, []) ∧
    decode [0xB8] = .ok (.cpAB, []) ∧ decode [0xB9] = .ok (.cpAC, []) ∧
    decode [0xBA] = .ok (.cpAD, []) ∧ decode [0xBB] = .ok (.cpAE, []) ∧
    decode [0xBC] = .ok (.cpAH, []) ∧ decode [0xBD] = .ok (.cpAL, []) ∧
    decode [0xBE] = .ok (.cpAIndHL, []) ∧ decode [0xBF] = .ok (.cpAA, []) :=
  ⟨rfl, rfl, rfl, rfl, rfl, rfl, rfl, rfl, rfl, rfl, rfl, rfl, rfl, rfl, rfl, rfl⟩

theorem test_decode_primary_row_C :
    decode [0xC0] = .ok (.retNZ, []) ∧ decode [0xC1] = .ok (.popBC, []) ∧
    decode [0xC2, 0x34, 0x12] = .ok (.jpNZA16 0x1234, []) ∧ decode [0xC3, 0x34, 0x12] = .ok (.jpA16 0x1234, []) ∧
    decode [0xC4, 0x34, 0x12] = .ok (.callNZA16 0x1234, []) ∧ decode [0xC5] = .ok (.pushBC, []) ∧
    decode [0xC6, 0x34] = .ok (.addAD8 0x34, []) ∧ decode [0xC7] = .ok (.rst00, []) ∧
    decode [0xC8] = .ok (.retZ, []) ∧ decode [0xC9] = .ok (.ret, []) ∧
    decode [0xCA, 0x34, 0x12] = .ok (.jpZA16 0x1234, []) ∧ decode [0xCC, 0x34, 0x12] = .ok (.callZA16 0x1234, []) ∧
    decode [0xCD, 0x34, 0x12] = .ok (.callA16 0x1234, []) ∧ decode [0xCE, 0x34] = .ok (.adcAD8 0x34, []) ∧
    decode [0xCF] = .ok (.rst08, []) :=
  ⟨rfl, rfl, rfl, rfl, rfl, rfl, rfl, rfl, rfl, rfl, rfl, rfl, rfl, rfl, rfl⟩

theorem test_decode_primary_row_D :
    decode [0xD0] = .ok (.retNC, []) ∧ decode [0xD1] = .ok (.popDE, []) ∧
    decode [0xD2, 0x34, 0x12] = .ok (.jpNCA16 0x1234, []) ∧ decode [0xD4, 0x34, 0x12] = .ok (.callNCA16 0x1234, []) ∧
    decode [0xD5] = .ok (.pushDE, []) ∧ decode [0xD6, 0x34] = .ok (.subAD8 0x34, []) ∧
    decode [0xD7] = .ok (.rst10, []) ∧ decode [0xD8] = .ok (.retC, []) ∧
    decode [0xD9] = .ok (.reti, []) ∧ decode [0xDA, 0x34, 0x12] = .ok (.jpCA16 0x1234, []) ∧
    decode [0xDC, 0x34, 0x12] = .ok (.callCA16 0x1234, []) ∧ decode [0xDE, 0x34] = .ok (.sbcAD8 0x34, []) ∧
    decode [0xDF] = .ok (.rst18, []) :=
  ⟨rfl, rfl, rfl, rfl, rfl, rfl, rfl, rfl, rfl, rfl, rfl, rfl, rfl⟩

theorem test_decode_primary_row_E :
    decode [0xE0, 0x34] = .ok (.ldhIndA8A 0x34, []) ∧ decode [0xE1] = .ok (.popHL, []) ∧
    decode [0xE2] = .ok (.ldIndCA, []) ∧ decode [0xE5] = .ok (.pushHL, []) ∧
    decode [0xE6, 0x34] = .ok (.andAD8 0x34, []) ∧ decode [0xE7] = .ok (.rst20, []) ∧
    decode [0xE8, 0x34] = .ok (.addSPE8 0x34, []) ∧ decode [0xE9] = .ok (.jpHL, []) ∧
    decode [0xEA, 0x34, 0x12] = .ok (.ldIndA16A 0x1234, []) ∧ decode [0xEE, 0x34] = .ok (.xorAD8 0x34, []) ∧
    decode [0xEF] = .ok (.rst28, []) :=
  ⟨rfl, rfl, rfl, rfl, rfl, rfl, rfl, rfl, rfl, rfl, rfl⟩

theorem test_decode_primary_row_F :
    decode [0xF0, 0x34] = .ok (.ldhAIndA8 0x34, []) ∧ decode [0xF1] = .ok (.popAF, []) ∧
    decode [0xF2] = .ok (.ldAIndC, []) ∧ decode [0xF3] = .ok (.di, []) ∧
    decode [0xF5] = .ok (.pushAF, []) ∧ decode [0xF6, 0x34] = .ok (.orAD8 0x34, []) ∧
    decode [0xF7] = .ok (.rst30, []) ∧ decode [0xF8, 0x34] = .ok (.ldHLSPE8 0x34, []) ∧
    decode [0xF9] = .ok (.ldSPHL, []) ∧ decode [0xFA, 0x34, 0x12] = .ok (.ldAIndA16 0x1234, []) ∧
    decode [0xFB] = .ok (.ei, []) ∧ decode [0xFE, 0x34] = .ok (.cpAD8 0x34, []) ∧
    decode [0xFF] = .ok (.rst38, []) :=
  ⟨rfl, rfl, rfl, rfl, rfl, rfl, rfl, rfl, rfl, rfl, rfl, rfl, rfl⟩

theorem test_decode_extended_row_0 :
    decode [0xCB, 0x00] = .ok (.rlcB, []) ∧ decode [0xCB, 0x01] = .ok (.rlcC, []) ∧
    decode [0xCB, 0x02] = .ok (.rlcD, []) ∧ decode [0xCB, 0x03] = .ok (.rlcE, []) ∧
    decode [0xCB, 0x04] = .ok (.rlcH, []) ∧ decode [0xCB, 0x05] = .ok (.rlcL, []) ∧
    decode [0xCB, 0x06] = .ok (.rlcIndHL, []) ∧ decode [0xCB, 0x07] = .ok (.rlcA, []) ∧
    decode [0xCB, 0x08] = .ok (.rrcB, []) ∧ decode [0xCB, 0x09] = .ok (.rrcC, []) ∧
    decode [0xCB, 0x0A] = .ok (.rrcD, []) ∧ decode [0xCB, 0x0B] = .ok (.rrcE, []) ∧
    decode [0xCB, 0x0C] = .ok (.rrcH, []) ∧ decode [0xCB, 0x0D] = .ok (.rrcL, []) ∧
    decode [0xCB, 0x0E] = .ok (.rrcIndHL, []) ∧ decode [0xCB, 0x0F] = .ok (.rrcA, []) :=
  ⟨rfl, rfl, rfl, rfl, rfl, rfl, rfl, rfl, rfl, rfl, rfl, rfl, rfl, rfl, rfl, rfl⟩

theorem test_decode_extended_row_1 :
    decode [0xCB, 0x10] = .ok (.rlB, []) ∧ decode [0xCB, 0x11] = .ok (.rlC, []) ∧
    decode [0xCB, 0x12] = .ok (.rlD, []) ∧ decode [0xCB, 0x13] = .ok (.rlE, []) ∧
    decode [0xCB, 0x14] = .ok (.rlH, []) ∧ decode [0xCB, 0x15] = .ok (.rlL, []) ∧
    decode [0xCB, 0x16] = .ok (.rlIndHL, []) ∧ decode [0xCB, 0x17] = .ok (.rlA, []) ∧
    decode [0xCB, 0x18] = .ok (.rrB, []) ∧ decode [0xCB, 0x19] = .ok (.rrC, []) ∧
    decode [0xCB, 0x1A] = .ok (.rrD, []) ∧ decode [0xCB, 0x1B] = .ok (.rrE, []) ∧
    decode [0xCB, 0x1C] = .ok (.rrH, []) ∧ decode [0xCB, 0x1D] = .ok (.rrL, []) ∧
    decode [0xCB, 0x1E] = .ok (.rrIndHL, []) ∧ decode [0xCB, 0x1F] = .ok (.rrA, []) :=
  ⟨rfl, rfl, rfl, rfl, rfl, rfl, rfl, rfl, rfl, rfl, rfl, rfl, rfl, rfl, rfl, rfl⟩

theorem test_decode_extended_row_2 :
    decode [0xCB, 0x20] = .ok (.slaB, []) ∧ decode [0xCB, 0x21] = .ok (.slaC, []) ∧
    decode [0xCB, 0x22] = .ok (.slaD, []) ∧ decode [0xCB, 0x23] = .ok (.slaE, []) ∧
    decode [0xCB, 0x24] = .ok (.slaH, []) ∧ decode [0xCB, 0x25] = .ok (.slaL, []) ∧
    decode [0xCB, 0x26] = .ok (.slaIndHL, []) ∧ decode [0xCB, 0x27] = .ok (.slaA, []) ∧
    decode [0xCB, 0x28] = .ok (.sraB, []) ∧ decode [0xCB, 0x29] = .ok (.sraC, []) ∧
    decode [0xCB, 0x2A] = .ok (.sraD, []) ∧ decode [0xCB, 0x2B] = .ok (.sraE, []) ∧
    decode [0xCB, 0x2C] = .ok (.sraH, []) ∧ decode [0xCB, 0x2D] = .ok (.sraL, []) ∧
    decode [0xCB, 0x2E] = .ok (.sraIndHL, []) ∧ decode [0xCB, 0x2F] = .ok (.sraA, []) :=
  ⟨rfl, rfl, rfl, rfl, rfl, rfl, rfl, rfl, rfl, rfl, rfl, rfl, rfl, rfl, rfl, rfl⟩

theorem test_decode_extended_row_3 :
    decode [0xCB, 0x30] = .ok (.swapB, []) ∧ decode [0xCB, 0x31] = .ok (.swapC, []) ∧
    decode [0xCB, 0x32] = .ok (.swapD, []) ∧ decode [0xCB, 0x33] = .ok (.swapE, []) ∧
    decode [0xCB, 0x34] = .ok (.swapH, []) ∧ decode [0xCB, 0x35] = .ok (.swapL, []) ∧
    decode [0xCB, 0x36] = .ok (.swapIndHL, []) ∧ decode [0xCB, 0x37] = .ok (.swapA, []) ∧
    decode [0xCB, 0x38] = .ok (.srlB, []) ∧ decode [0xCB, 0x39] = .ok (.srlC, []) ∧
    decode [0xCB, 0x3A] = .ok (.srlD, []) ∧ decode [0xCB, 0x3B] = .ok (.srlE, []) ∧
    decode [0xCB, 0x3C] = .ok (.srlH, []) ∧ decode [0xCB, 0x3D] = .ok (.srlL, []) ∧
    decode [0xCB, 0x3E] = .ok (.srlIndHL, []) ∧ decode [0xCB, 0x3F] = .ok (.srlA, []) :=
  ⟨rfl, rfl, rfl, rfl, rfl, rfl, rfl, rfl, rfl, rfl, rfl, rfl, rfl, rfl, rfl, rfl⟩

theorem test_decode_extended_row_4 :
    decode [0xCB, 0x40] = .ok (.bit0B, []) ∧ decode [0xCB, 0x41] = .ok (.bit0C, []) ∧
    decode [0xCB, 0x42] = .ok (.bit0D, []) ∧ decode [0xCB, 0x43] = .ok (.bit0E, []) ∧
    decode [0xCB, 0x44] = .ok (.bit0H, []) ∧ decode [0xCB, 0x45] = .ok (.bit0L, []) ∧
    decode [0xCB, 0x46] = .ok (.bit0IndHL, []) ∧ decode [0xCB, 0x47] = .ok (.bit0A, []) ∧
    decode [0xCB, 0x48] = .ok (.bit1B, []) ∧ decode [0xCB, 0x49] = .ok (.bit1C, []) ∧
    decode [0xCB, 0x4A] = .ok (.bit1D, []) ∧ decode [0xCB, 0x4B] = .ok (.bit1E, []) ∧
    decode [0xCB, 0x4C] = .ok (.bit1H, []) ∧ decode [0xCB, 0x4D] = .ok (.bit1L, []) ∧
    decode [0xCB, 0x4E] = .ok (.bit1IndHL, []) ∧ decode [0xCB, 0x4F] = .ok (.bit1A, []) :=
  ⟨rfl, rfl, rfl, rfl, rfl, rfl, rfl, rfl, rfl, rfl, rfl, rfl, rfl, rfl, rfl, rfl⟩

theorem test_decode_extended_row_5 :
    decode [0xCB, 0x50] = .ok (.bit2B, []) ∧ decode [0xCB, 0x51] = .ok (.bit2C, []) ∧
    decode [0xCB, 0x52] = .ok (.bit2D, []) ∧ decode [0xCB, 0x53] = .ok (.bit2E, []) ∧
    decode [0xCB, 0x54] = .ok (.bit2H, []) ∧ decode [0xCB, 0x55] = .ok (.bit2L, []) ∧
    decode [0xCB, 0x56] = .ok (.bit2IndHL, []) ∧ decode [0xCB, 0x57] = .ok (.bit2A, []) ∧
    decode [0xCB, 0x58] = .ok (.bit3B, []) ∧ decode [0xCB, 0x59] = .ok (.bit3C, []) ∧
    decode [0xCB, 0x5A] = .ok (.bit3D, []) ∧ decode [0xCB, 0x5B] = .ok (.bit3E, []) ∧
    decode [0xCB, 0x5C] = .ok (.bit3H, []) ∧ decode [0xCB, 0x5D] = .ok (.bit3L, []) ∧
    decode [0xCB, 0x5E] = .ok (.bit3IndHL, []) ∧ decode [0xCB, 0x5F] = .ok (.bit3A, []) :=
  ⟨rfl, rfl, rfl, rfl, rfl, rfl, rfl, rfl, rfl, rfl, rfl, rfl, rfl, rfl, rfl, rfl⟩

theorem test_decode_extended_row_6 :
    decode [0xCB, 0x60] = .ok (.bit4B, []) ∧ decode [0xCB, 0x61] = .ok (.bit4C, []) ∧
    decode [0xCB, 0x62] = .ok (.bit4D, []) ∧ decode [0xCB, 0x63] = .ok (.bit4E, []) ∧
    decode [0xCB, 0x64] = .ok (.bit4H, []) ∧ decode [0xCB, 0x65] = .ok (.bit4L, []) ∧
    decode [0xCB, 0x66] = .ok (.bit4IndHL, []) ∧ decode [0xCB, 0x67] = .ok (.bit4A, []) ∧
    decode [0xCB, 0x68] = .ok (.bit5B, []) ∧ decode [0xCB, 0x69] = .ok (.bit5C, []) ∧
    decode [0xCB, 0x6A] = .ok (.bit5D, []) ∧ decode [0xCB, 0x6B] = .ok (.bit5E, []) ∧
    decode [0xCB, 0x6C] = .ok (.bit5H, []) ∧ decode [0xCB, 0x6D] = .ok (.bit5L, []) ∧
    decode [0xCB, 0x6E] = .ok (.bit5IndHL, []) ∧ decode [0xCB, 0x6F] = .ok (.bit5A, []) :=
  ⟨rfl, rfl, rfl, rfl, rfl, rfl, rfl, rfl, rfl, rfl, rfl, rfl, rfl, rfl, rfl, rfl⟩

theorem test_decode_extended_row_7 :
    decode [0xCB, 0x70] = .ok (.bit6B, []) ∧ decode [0xCB, 0x71] = .ok (.bit6C, []) ∧
    decode [0xCB, 0x72] = .ok (.bit6D, []) ∧ decode [0xCB, 0x73] = .ok (.bit6E, []) ∧
    decode [0xCB, 0x74] = .ok (.bit6H, []) ∧ decode [0xCB, 0x75] = .ok (.bit6L, []) ∧
    decode [0xCB, 0x76] = .ok (.bit6IndHL, []) ∧ decode [0xCB, 0x77] = .ok (.bit6A, []) ∧
    decode [0xCB, 0x78] = .ok (.bit7B, []) ∧ decode [0xCB, 0x79] = .ok (.bit7C, []) ∧
    decode [0xCB, 0x7A] = .ok (.bit7D, []) ∧ decode [0xCB, 0x7B] = .ok (.bit7E, []) ∧
    decode [0xCB, 0x7C] = .ok (.bit7H, []) ∧ decode [0xCB, 0x7D] = .ok (.bit7L, []) ∧
    decode [0xCB, 0x7E] = .ok (.bit7IndHL, []) ∧ decode [0xCB, 0x7F] = .ok (.bit7A, []) :=
  ⟨rfl, rfl, rfl, rfl, rfl, rfl, rfl, rfl, rfl, rfl, rfl, rfl, rfl, rfl, rfl, rfl⟩

theorem test_decode_extended_row_8 :
    decode [0xCB, 0x80] = .ok (.res0B, []) ∧ decode [0xCB, 0x81] = .ok (.res0C, []) ∧
    decode [0xCB, 0x82] = .ok (.res0D, []) ∧ decode [0xCB, 0x83] = .ok (.res0E, []) ∧
    decode [0xCB, 0x84] = .ok (.res0H, []) ∧ decode [0xCB, 0x85] = .ok (.res0L, []) ∧
    decode [0xCB, 0x86] = .ok (.res0IndHL, []) ∧ decode [0xCB, 0x87] = .ok (.res0A, []) ∧
    decode [0xCB, 0x88] = .ok (.res1B, []) ∧ decode [0xCB, 0x89] = .ok (.res1C, []) ∧
    decode [0xCB, 0x8A] = .ok (.res1D, []) ∧ decode [0xCB, 0x8B] = .ok (.res1E, []) ∧
    decode [0xCB, 0x8C] = .ok (.res1H, []) ∧ decode [0xCB, 0x8D] = .ok (.res1L, []) ∧
    decode [0xCB, 0x8E] = .ok (.res1IndHL, []) ∧ decode [0xCB, 0x8F] = .ok (.res1A, []) :=
  ⟨rfl, rfl, rfl, rfl, rfl, rfl, rfl, rfl, rfl, rfl, rfl, rfl, rfl, rfl, rfl, rfl⟩

theorem test_decode_extended_row_9 :
    decode [0xCB, 0x90] = .ok (.res2B, []) ∧ decode [0xCB, 0x91] = .ok (.res2C, []) ∧
    decode [0xCB, 0x92] = .ok (.res2D, []) ∧ decode [0xCB, 0x93] = .ok (.res2E, []) ∧
    decode [0xCB, 0x94] = .ok (.res2H, []) ∧ decode [0xCB, 0x95] = .ok (.res2L, []) ∧
    decode [0xCB, 0x96] = .ok (.res2IndHL, []) ∧ decode [0xCB, 0x97] = .ok (.res2A, []) ∧
    decode [0xCB, 0x98] = .ok (.res3B, []) ∧ decode [0xCB, 0x99] = .ok (.res3C, []) ∧
    decode [0xCB, 0x9A] = .ok (.res3D, []) ∧ decode [0xCB, 0x9B] = .ok (.res3E, []) ∧
    decode [0xCB, 0x9C] = .ok (.res3H, []) ∧ decode [0xCB, 0x9D] = .ok (.res3L, []) ∧
    decode [0xCB, 0x9E] = .ok (.res3IndHL, []) ∧ decode [0xCB, 0x9F] = .ok (.res3A, []) :=
  ⟨rfl, rfl, rfl, rfl, rfl, rfl, rfl, rfl, rfl, rfl, rfl, rfl, rfl, rfl, rfl, rfl⟩

theorem test_decode_extended_row_A :
    decode [0xCB, 0xA0] = .ok (.res4B, []) ∧ decode [0xCB, 0xA1] = .ok (.res4C, []) ∧
    decode [0xCB, 0xA2] = .ok (.res4D, []) ∧ decode [0xCB, 0xA3] = .ok (.res4E, []) ∧
    decode [0xCB, 0xA4] = .ok (.res4H, []) ∧ decode [0xCB, 0xA5] = .ok (.res4L, []) ∧
    decode [0xCB, 0xA6] = .ok (.res4IndHL, []) ∧ decode [0xCB, 0xA7] = .ok (.res4A, []) ∧
    decode [0xCB, 0xA8] = .ok (.res5B, []) ∧ decode [0xCB, 0xA9] = .ok (.res5C, []) ∧
    decode [0xCB, 0xAA] = .ok (.res5D, []) ∧ decode [0xCB, 0xAB] = .ok (.res5E, []) ∧
    decode [0xCB, 0xAC] = .ok (.res5H, []) ∧ decode [0xCB, 0xAD] = .ok (.res5L, []) ∧
    decode [0xCB, 0xAE] = .ok (.res5IndHL, []) ∧ decode [0xCB, 0xAF] = .ok (.res5A, []) :=
  ⟨rfl, rfl, rfl, rfl, rfl, rfl, rfl, rfl, rfl, rfl, rfl, rfl, rfl, rfl, rfl, rfl⟩

theorem test_decode_extended_row_B :
    decode [0xCB, 0xB0] = .ok (.res6B, []) ∧ decode [0xCB, 0xB1] = .ok (.res6C, []) ∧
    decode [0xCB, 0xB2] = .ok (.res6D, []) ∧ decode [0xCB, 0xB3] = .ok (.res6E, []) ∧
    decode [0xCB, 0xB4] = .ok (.res6H, []) ∧ decode [0xCB, 0xB5] = .ok (.res6L, []) ∧
    decode [0xCB, 0xB6] = .ok (.res6IndHL, []) ∧ decode [0xCB, 0xB7] = .ok (.res6A, []) ∧
    decode [0xCB, 0xB8] = .ok (.res7B, []) ∧ decode [0xCB, 0xB9] = .ok (.res7C, []) ∧
    decode [0xCB, 0xBA] = .ok (.res7D, []) ∧ decode [0xCB, 0xBB] = .ok (.res7E, []) ∧
    decode [0xCB, 0xBC] = .ok (.res7H, []) ∧ decode [0xCB, 0xBD] = .ok (.res7L, []) ∧
    decode [0xCB, 0xBE] = .ok (.res7IndHL, []) ∧ decode [0xCB, 0xBF] = .ok (.res7A, []) :=
  ⟨rfl, rfl, rfl, rfl, rfl, rfl, rfl, rfl, rfl, rfl, rfl, rfl, rfl, rfl, rfl, rfl⟩

theorem test_decode_extended_row_C :
    decode [0xCB, 0xC0] = .ok (.set0B, []) ∧ decode [0xCB, 0xC1] = .ok (.set0C, []) ∧
    decode [0xCB, 0xC2] = .ok (.set0D, []) ∧ decode [0xCB, 0xC3] = .ok (.set0E, []) ∧
    decode [0xCB, 0xC4] = .ok (.set0H, []) ∧ decode [0xCB, 0xC5] = .ok (.set0L, []) ∧
    decode [0xCB, 0xC6] = .ok (.set0IndHL, []) ∧ decode [0xCB, 0xC7] = .ok (.set0A, []) ∧
    decode [0xCB, 0xC8] = .ok (.set1B, []) ∧ decode [0xCB, 0xC9] = .ok (.set1C, []) ∧
    decode [0xCB, 0xCA] = .ok (.set1D, []) ∧ decode [0xCB, 0xCB] = .ok (.set1E, []) ∧
    decode [0xCB, 0xCC] = .ok (.set1H, []) ∧ decode [0xCB, 0xCD] = .ok (.set1L, []) ∧
    decode [0xCB, 0xCE] = .ok (.set1IndHL, []) ∧ decode [0xCB, 0xCF] = .ok (.set1A, []) :=
  ⟨rfl, rfl, rfl, rfl, rfl, rfl, rfl, rfl, rfl, rfl, rfl, rfl, rfl, rfl, rfl, rfl⟩

theorem test_decode_extended_row_D :
    decode [0xCB, 0xD0] = .ok (.set2B, []) ∧ decode [0xCB, 0xD1] = .ok (.set2C, []) ∧
    decode [0xCB, 0xD2] = .ok (.set2D, []) ∧ decode [0xCB, 0xD3] = .ok (.set2E, []) ∧
    decode [0xCB, 0xD4] = .ok (.set2H, []) ∧ decode [0xCB, 0xD5] = .ok (.set2L, []) ∧
    decode [0xCB, 0xD6] = .ok (.set2IndHL, []) ∧ decode [0xCB, 0xD7] = .ok (.set2A, []) ∧
    decode [0xCB, 0xD8] = .ok (.set3B, []) ∧ decode [0xCB, 0xD9] = .ok (.set3C, []) ∧
    decode [0xCB, 0xDA] = .ok (.set3D, []) ∧ decode [0xCB, 0xDB] = .ok (.set3E, []) ∧
    decode [0xCB, 0xDC] = .ok (.set3H, []) ∧ decode [0xCB, 0xDD] = .ok (.set3L, []) ∧
    decode [0xCB, 0xDE] = .ok (.set3IndHL, []) ∧ decode [0xCB, 0xDF] = .ok (.set3A, []) :=
  ⟨rfl, rfl, rfl, rfl, rfl, rfl, rfl, rfl, rfl, rfl, rfl, rfl, rfl, rfl, rfl, rfl⟩

theorem test_decode_extended_row_E :
    decode [0xCB, 0xE0] = .ok (.set4B, []) ∧ decode [0xCB, 0xE1] = .ok (.set4C, []) ∧
    decode [0xCB, 0xE2] = .ok (.set4D, []) ∧ decode [0xCB, 0xE3] = .ok (.set4E, []) ∧
    decode [0xCB, 0xE4] = .ok (.set4H, []) ∧ decode [0xCB, 0xE5] = .ok (.set4L, []) ∧
    decode [0xCB, 0xE6] = .ok (.set4IndHL, []) ∧ decode [0xCB, 0xE7] = .ok (.set4A, []) ∧
    decode [0xCB, 0xE8] = .ok (.set5B, []) ∧ decode [0xCB, 0xE9] = .ok (.set5C, []) ∧
    decode [0xCB, 0xEA] = .ok (.set5D, []) ∧ decode [0xCB, 0xEB] = .ok (.set5E, []) ∧
    decode [0xCB, 0xEC] = .ok (.set5H, []) ∧ decode [0xCB, 0xED] = .ok (.set5L, []) ∧
    decode [0xCB, 0xEE] = .ok (.set5IndHL, []) ∧ decode [0xCB, 0xEF] = .ok (.set5A, []) :=
  ⟨rfl, rfl, rfl, rfl, rfl, rfl, rfl, rfl, rfl, rfl, rfl, rfl, rfl, rfl, rfl, rfl⟩

theorem test_decode_extended_row_F :
    decode [0xCB, 0xF0] = .ok (.set6B, []) ∧ decode [0xCB, 0xF1] = .ok (.set6C, []) ∧
    decode [0xCB, 0xF2] = .ok (.set6D, []) ∧ decode [0xCB, 0xF3] = .ok (.set6E, []) ∧
    decode [0xCB, 0xF4] = .ok (.set6H, []) ∧ decode [0xCB, 0xF5] = .ok (.set6L, []) ∧
    decode [0xCB, 0xF6] = .ok (.set6IndHL, []) ∧ decode [0xCB, 0xF7] = .ok (.set6A, []) ∧
    decode [0xCB, 0xF8] = .ok (.set7B, []) ∧ decode [0xCB, 0xF9] = .ok (.set7C, []) ∧
    decode [0xCB, 0xFA] = .ok (.set7D, []) ∧ decode [0xCB, 0xFB] = .ok (.set7E, []) ∧
    decode [0xCB, 0xFC] = .ok (.set7H, []) ∧ decode [0xCB, 0xFD] = .ok (.set7L, []) ∧
    decode [0xCB, 0xFE] = .ok (.set7IndHL, []) ∧ decode [0xCB, 0xFF] = .ok (.set7A, []) :=
  ⟨rfl, rfl, rfl, rfl, rfl, rfl, rfl, rfl, rfl, rfl, rfl, rfl, rfl, rfl, rfl, rfl⟩

theorem test_decode_unmapped :
    decode [0xD3] = .ok (.unmappedD3, []) ∧ decode [0xDB] = .ok (.unmappedDB, []) ∧
    decode [0xDD] = .ok (.unmappedDD, []) ∧ decode [0xE3] = .ok (.unmappedE3, []) ∧
    decode [0xE4] = .ok (.unmappedE4, []) ∧ decode [0xEB] = .ok (.unmappedEB, []) ∧
    decode [0xEC] = .ok (.unmappedEC, []) ∧ decode [0xED] = .ok (.unmappedED, []) ∧
    decode [0xF4] = .ok (.unmappedF4, []) ∧ decode [0xFC] = .ok (.unmappedFC, []) ∧
    decode [0xFD] = .ok (.unmappedFD, []) :=
  ⟨rfl, rfl, rfl, rfl, rfl, rfl, rfl, rfl, rfl, rfl, rfl⟩

/-- A sequence that ends inside an instruction is rejected by the name of the missing part (rule R80). -/
theorem test_decode_rejects_what_is_cut_short :
    decode [] = .error .noOpcode ∧ decode [0xCB] = .error .noExtendedOpcode ∧ decode [0x3E] = .error .noImmediateByte ∧
      decode [0x10] = .error .noImmediateByte ∧ decode [0xC3] = .error .noImmediateWord ∧
      decode [0xC3, 0x34] = .error .noImmediateWord :=
  ⟨rfl, rfl, rfl, rfl, rfl, rfl⟩

/-- What follows an instruction is left over. -/
theorem test_decode_leaves_the_rest : decode [0xCD, 0x34, 0x12, 0x76] = .ok (.callA16 0x1234, [0x76]) := rfl

/-- The words of spec/opcode_table.json as the table numbers them: a CALL's operand word is absent, a CB row is in stream
order (rule R93), and its bytes swapped mean the same (log entry 8). -/
theorem test_table_words :
    decodeTableWord 8 0xCD = some (.callA16 0) ∧ decodeTableWord 16 0xCB7C = some .bit7H ∧
      decodeTableWord 16 0x7CCB = some .bit7H ∧ decodeTableWord 8 0xD3 = some .unmappedD3 ∧
      decodeTableWord 8 0x10 = some (.stop 0) := by decide

/-! ### Well-formedness: the instructions a build leaves out are refused (rule R91, rule R92) -/

theorem test_wellFormed_refuses_the_unmapped : WellFormed Params.default .unmappedD3 = false := by decide

theorem test_wellFormed_refuses_a_left_out_primary :
    WellFormed { Params.default with leftOutPrimary := [0xC3] } (.jpA16 0x1234) = false := by decide

theorem test_wellFormed_refuses_a_left_out_extended :
    WellFormed { Params.default with leftOutCB := [0xD3] } .set2E = false := by decide

theorem test_wellFormed_accepts_the_rest :
    WellFormed Params.default (.jpA16 0x1234) = true ∧ WellFormed Params.default .set2E = true ∧
      WellFormed { Params.default with leftOutPrimary := [0xD3], leftOutCB := [0xC3] } .set2E = true := by decide

/-! ### One instruction from a start state: the vectors of spec/95_test_vectors.md section 2 -/

/-- From the start, with the instruction's bytes placed at `PC`, one step ends in exactly the state the vector says: the
fields it names have its values and all others are as they were. The counter is the vector's cost less 1 (rule R303). -/
def endsAs (start : State) (bytes : List Byte) (change : State → State) : Bool :=
  let s := placeBytes start start.pc bytes
  match step s with
  | .next t => decide (t = change s)
  | .fault _ => false
  | .refused _ => false

/-- Rule R81: V204. -/
theorem test_R81_fetch_error :
    endsAs { State.reset with pc := 0x00FF } [0x3E]
      (fun s => { s with pc := 0x0100, fault := some (.accessError 0x0100 .read) }) = true := by decide

/-- Rule R84: V201, V202, V203. -/
theorem test_R84_fetch_at_the_end_of_the_boot_image :
    endsAs { State.reset with pc := 0x00FF } [0x00] (fun s => { s with pc := 0x0100 }) = true ∧
    endsAs { State.reset with pc := 0x0100 } [] (fun s => { s with fault := some (.accessError 0x0100 .read) }) = true ∧
    endsAs { State.reset with pc := 0x00FF } [0xCB]
      (fun s => { s with pc := 0x0100, fault := some (.accessError 0x0100 .read) }) = true := by decide

/-- Rule R91: V190, V191, V192, V193, V194, V195, V196, V197, V198, V199, V200. -/
theorem test_R91_unmapped_opcodes :
    endsAs State.reset [0xD3]
      (fun s => { s with pc := 0x0001, fault := some (.decodeError .primary 0xD3 0x0000) }) = true ∧
    endsAs { State.reset with pc := 0x8000 } [0xDB]
      (fun s => { s with pc := 0x8001, fault := some (.decodeError .primary 0xDB 0x8000) }) = true ∧
    endsAs State.reset [0xDD]
      (fun s => { s with pc := 0x0001, fault := some (.decodeError .primary 0xDD 0x0000) }) = true ∧
    endsAs { State.reset with pc := 0x8000 } [0xE3]
      (fun s => { s with pc := 0x8001, fault := some (.decodeError .primary 0xE3 0x8000) }) = true ∧
    endsAs State.reset [0xE4]
      (fun s => { s with pc := 0x0001, fault := some (.decodeError .primary 0xE4 0x0000) }) = true ∧
    endsAs { State.reset with pc := 0x8000 } [0xEB]
      (fun s => { s with pc := 0x8001, fault := some (.decodeError .primary 0xEB 0x8000) }) = true ∧
    endsAs State.reset [0xEC]
      (fun s => { s with pc := 0x0001, fault := some (.decodeError .primary 0xEC 0x0000) }) = true ∧
    endsAs { State.reset with pc := 0x8000 } [0xED]
      (fun s => { s with pc := 0x8001, fault := some (.decodeError .primary 0xED 0x8000) }) = true ∧
    endsAs State.reset [0xF4]
      (fun s => { s with pc := 0x0001, fault := some (.decodeError .primary 0xF4 0x0000) }) = true ∧
    endsAs { State.reset with pc := 0x8000 } [0xFC]
      (fun s => { s with pc := 0x8001, fault := some (.decodeError .primary 0xFC 0x8000) }) = true ∧
    endsAs State.reset [0xFD]
      (fun s => { s with pc := 0x0001, fault := some (.decodeError .primary 0xFD 0x0000) }) = true := by decide

/-- Rule R111: V1, V2. -/
theorem test_R111_ld_r_r :
    endsAs { State.reset with bc := 0x5A00 } [0x78] (fun s => { s with af := 0x5A00, pc := 0x0001 }) = true ∧
    endsAs { State.reset with af := 0x3300 } [0x7F] (fun s => { s with pc := 0x0001 }) = true := by decide

/-- Rule R112: V3, V4. -/
theorem test_R112_ld_r_indHL :
    endsAs { State.reset with hl := 0x8010, vram := [(0x0010, 0xC3)] } [0x7E]
      (fun s => { s with af := 0xC300, pc := 0x0001, counter := 1 }) = true ∧
    endsAs { State.reset with hl := 0x8010, vram := [(0x0010, 0x91)] } [0x66]
      (fun s => { s with hl := 0x9110, pc := 0x0001, counter := 1 }) = true := by decide

/-- Rule R113: V5, V6, V7. -/
theorem test_R113_ld_indHL_r :
    endsAs { State.reset with bc := 0x4400, hl := 0x8020 } [0x70]
      (fun s => { s with pc := 0x0001, counter := 1, vram := Memory.writeCell s.vram 0x0020 0x44 }) = true ∧
    endsAs { State.reset with hl := 0x8123 } [0x74]
      (fun s => { s with pc := 0x0001, counter := 1, vram := Memory.writeCell s.vram 0x0123 0x81 }) = true ∧
    endsAs { State.reset with af := 0x1200, hl := 0x0050 } [0x77]
      (fun s => { s with pc := 0x0001, fault := some (.accessError 0x0050 .write) }) = true := by decide

/-- Rule R114: V8. -/
theorem test_R114_ld_r_d8 :
    endsAs State.reset [0x0E, 0xFF] (fun s => { s with bc := 0x00FF, pc := 0x0002, counter := 1 }) = true := by decide

/-- Rule R115: V9, V10. -/
theorem test_R115_ld_indHL_d8 :
    endsAs { State.reset with hl := 0x9FFF } [0x36, 0x99]
      (fun s => { s with pc := 0x0002, counter := 2, vram := Memory.writeCell s.vram 0x1FFF 0x99 }) = true ∧
    endsAs { State.reset with hl := 0xFF26 } [0x36, 0x99] (fun s => { s with pc := 0x0002, counter := 2 }) = true := by decide

/-- Rule R116: V11. -/
theorem test_R116_ld_a_indBC :
    endsAs { State.reset with bc := 0x8002, vram := [(0x0002, 0x7E)] } [0x0A]
      (fun s => { s with af := 0x7E00, pc := 0x0001, counter := 1 }) = true := by decide

/-- Rule R117: V12. -/
theorem test_R117_ld_a_indDE :
    endsAs { State.reset with de := 0xE002, vram := [(0x0002, 0x7E)] } [0x1A]
      (fun s => { s with af := 0x7E00, pc := 0x0001, counter := 1 }) = true := by decide

/-- Rule R118: V13. -/
theorem test_R118_ld_indBC_a :
    endsAs { State.reset with af := 0xAB00, bc := 0x8100 } [0x02]
      (fun s => { s with pc := 0x0001, counter := 1, vram := Memory.writeCell s.vram 0x0100 0xAB }) = true := by decide

/-- Rule R119: V14. -/
theorem test_R119_ld_indDE_a :
    endsAs { State.reset with af := 0xAB00, de := 0xC000 } [0x12]
      (fun s => { s with pc := 0x0001, fault := some (.accessError 0xC000 .write) }) = true := by decide

/-- Rule R120: V15. -/
theorem test_R120_ld_indHLInc_a :
    endsAs { State.reset with af := 0x0100, hl := 0x9FFF } [0x22]
      (fun s => { s with hl := 0xA000, pc := 0x0001, counter := 1, vram := Memory.writeCell s.vram 0x1FFF 0x01 }) = true := by decide

/-- Rule R121: V16. -/
theorem test_R121_ld_indHLDec_a :
    endsAs { State.reset with af := 0x0200, hl := 0x8000 } [0x32]
      (fun s => { s with hl := 0x7FFF, pc := 0x0001, counter := 1, vram := Memory.writeCell s.vram 0x0000 0x02 }) = true := by decide

/-- Rule R122: V17, V19. -/
theorem test_R122_ld_a_indHLInc :
    endsAs { State.reset with hl := 0x80FF, vram := [(0x00FF, 0x66)] } [0x2A]
      (fun s => { s with af := 0x6600, hl := 0x8100, pc := 0x0001, counter := 1 }) = true ∧
    endsAs { State.reset with hl := 0xA000 } [0x2A]
      (fun s => { s with pc := 0x0001, fault := some (.accessError 0xA000 .read) }) = true := by decide

/-- Rule R123: V18. -/
theorem test_R123_ld_a_indHLDec :
    endsAs { State.reset with hl := 0x8000, vram := [(0x0000, 0x77)] } [0x3A]
      (fun s => { s with af := 0x7700, hl := 0x7FFF, pc := 0x0001, counter := 1 }) = true := by decide

/-- Rule R124: V20. -/
theorem test_R124_ld_a_indA16 :
    endsAs { State.reset with vram := [(0x1234, 0x5C)] } [0xFA, 0x34, 0x92]
      (fun s => { s with af := 0x5C00, pc := 0x0003, counter := 3 }) = true := by decide

/-- Rule R125: V21. -/
theorem test_R125_ld_indA16_a :
    endsAs { State.reset with af := 0x0100 } [0xEA, 0x00, 0xFE]
      (fun s => { s with pc := 0x0003, fault := some (.accessError 0xFE00 .write) }) = true := by decide

/-- Rule R126: V22. -/
theorem test_R126_ldh_a_indA8 :
    endsAs { State.reset with af := 0x7700 } [0xF0, 0x26]
      (fun s => { s with af := 0x0000, pc := 0x0002, counter := 2 }) = true := by decide

/-- Rule R127: V23, V24. -/
theorem test_R127_ldh_indA8_a :
    endsAs { State.reset with af := 0x7700 } [0xE0, 0x26] (fun s => { s with pc := 0x0002, counter := 2 }) = true ∧
    endsAs { State.reset with af := 0x7700 } [0xE0, 0x80]
      (fun s => { s with pc := 0x0002, fault := some (.accessError 0xFF80 .write) }) = true := by decide

/-- Rule R128: V25. -/
theorem test_R128_ld_a_indC :
    endsAs { State.reset with af := 0x5500, bc := 0x0026 } [0xF2]
      (fun s => { s with af := 0x0000, pc := 0x0001, counter := 1 }) = true := by decide

/-- Rule R129: V26. -/
theorem test_R129_ld_indC_a :
    endsAs { State.reset with af := 0x8000, bc := 0x0011 } [0xE2]
      (fun s => { s with pc := 0x0001, fault := some (.accessError 0xFF11 .write) }) = true := by decide

/-- Rule R141: V30, V31. -/
theorem test_R141_ld_rr_d16 :
    endsAs State.reset [0x01, 0x34, 0x12] (fun s => { s with bc := 0x1234, pc := 0x0003, counter := 2 }) = true ∧
    endsAs State.reset [0x31, 0xFE, 0xFF] (fun s => { s with sp := 0xFFFE, pc := 0x0003, counter := 2 }) = true := by decide

/-- Rule R142: V32, V33. -/
theorem test_R142_ld_indA16_sp :
    endsAs { State.reset with sp := 0xFFF8 } [0x08, 0x00, 0x80]
      (fun s => { s with pc := 0x0003, counter := 4, vram := Memory.writeCell (Memory.writeCell s.vram 0x0000 0xF8) 0x0001 0xFF }) = true ∧
    endsAs { State.reset with sp := 0x1234 } [0x08, 0xFF, 0x9F]
      (fun s => { s with pc := 0x0003, fault := some (.accessError 0xA000 .write), vram := Memory.writeCell s.vram 0x1FFF 0x34 }) = true := by decide

/-- Rule R143: V34. -/
theorem test_R143_ld_sp_hl :
    endsAs { State.reset with hl := 0x9F00 } [0xF9]
      (fun s => { s with sp := 0x9F00, pc := 0x0001, counter := 1 }) = true := by decide

/-- Rule R144: V35, V36, V37, V38. -/
theorem test_R144_ld_hl_sp_e8 :
    endsAs { State.reset with sp := 0xFFF8 } [0xF8, 0x02]
      (fun s => { s with hl := 0xFFFA, pc := 0x0002, counter := 2 }) = true ∧
    endsAs State.reset [0xF8, 0xFF] (fun s => { s with hl := 0xFFFF, pc := 0x0002, counter := 2 }) = true ∧
    endsAs { State.reset with sp := 0x00FF } [0xF8, 0x01]
      (fun s => { s with af := 0x0030, hl := 0x0100, pc := 0x0002, counter := 2 }) = true ∧
    endsAs { State.reset with af := 0x00F0, sp := 0xFFFF } [0xF8, 0x01]
      (fun s => { s with af := 0x0030, pc := 0x0002, counter := 2 }) = true := by decide

/-- Rule R145: V39, V40, V41, V42. -/
theorem test_R145_push :
    endsAs { State.reset with bc := 0x1234, sp := 0xA000 } [0xC5]
      (fun s => { s with sp := 0x9FFE, pc := 0x0001, counter := 3, vram := Memory.writeCell (Memory.writeCell s.vram 0x1FFE 0x34) 0x1FFF 0x12 }) = true ∧
    endsAs { State.reset with af := 0x12B0, sp := 0xA000 } [0xF5]
      (fun s => { s with sp := 0x9FFE, pc := 0x0001, counter := 3, vram := Memory.writeCell (Memory.writeCell s.vram 0x1FFE 0xB0) 0x1FFF 0x12 }) = true ∧
    endsAs { State.reset with bc := 0x1234 } [0xC5]
      (fun s => { s with sp := 0xFFFE, pc := 0x0001, fault := some (.accessError 0xFFFE .write) }) = true ∧
    endsAs { State.reset with de := 0xBEEF, sp := 0x8001 } [0xD5]
      (fun s => { s with sp := 0x7FFF, pc := 0x0001, fault := some (.accessError 0x7FFF .write) }) = true := by decide

/-- Rule R146: V43, V46. -/
theorem test_R146_pop :
    endsAs { State.reset with sp := 0x9FFE, vram := [(0x1FFE, 0x34), (0x1FFF, 0x12)] } [0xE1]
      (fun s => { s with hl := 0x1234, sp := 0xA000, pc := 0x0001, counter := 2 }) = true ∧
    endsAs { State.reset with sp := 0x9FFF, vram := [(0x1FFF, 0x11)] } [0xC1]
      (fun s => { s with pc := 0x0001, fault := some (.accessError 0xA000 .read) }) = true := by decide

/-- Rule R147: V44, V45. -/
theorem test_R147_pop_af :
    endsAs { State.reset with sp := 0x9FFE, vram := [(0x1FFE, 0xFF), (0x1FFF, 0x12)] } [0xF1]
      (fun s => { s with af := 0x12F0, sp := 0xA000, pc := 0x0001, counter := 2 }) = true ∧
    endsAs { State.reset with af := 0x00F0, sp := 0x9FFE, vram := [(0x1FFE, 0x0F)] } [0xF1]
      (fun s => { s with af := 0x0000, sp := 0xA000, pc := 0x0001, counter := 2 }) = true := by decide

/-- Rule R161: V50, V51, V52, V53. -/
theorem test_R161_add :
    endsAs { State.reset with af := 0x3A00, bc := 0xC600 } [0x80]
      (fun s => { s with af := 0x00B0, pc := 0x0001 }) = true ∧
    endsAs { State.reset with af := 0x0F00 } [0xC6, 0x01]
      (fun s => { s with af := 0x1020, pc := 0x0002, counter := 1 }) = true ∧
    endsAs { State.reset with af := 0x8000 } [0x87] (fun s => { s with af := 0x0090, pc := 0x0001 }) = true ∧
    endsAs { State.reset with af := 0x0100, hl := 0x8000, vram := [(0x0000, 0xFF)] } [0x86]
      (fun s => { s with af := 0x00B0, pc := 0x0001, counter := 1 }) = true := by decide

/-- Rule R162: V54, V55, V56. -/
theorem test_R162_adc :
    endsAs { State.reset with af := 0xE110, de := 0x000F } [0x8B]
      (fun s => { s with af := 0xF120, pc := 0x0001 }) = true ∧
    endsAs { State.reset with af := 0x0010 } [0xCE, 0xFF]
      (fun s => { s with af := 0x00B0, pc := 0x0002, counter := 1 }) = true ∧
    endsAs { State.reset with af := 0x8010 } [0x8F] (fun s => { s with af := 0x0110, pc := 0x0001 }) = true := by decide

/-- Rule R163: V57, V58, V59, V60. -/
theorem test_R163_sub :
    endsAs { State.reset with af := 0x3E00, bc := 0x3E00 } [0x90]
      (fun s => { s with af := 0x00C0, pc := 0x0001 }) = true ∧
    endsAs { State.reset with af := 0x3E00 } [0xD6, 0x0F]
      (fun s => { s with af := 0x2F60, pc := 0x0002, counter := 1 }) = true ∧
    endsAs { State.reset with af := 0x5530 } [0x97] (fun s => { s with af := 0x00C0, pc := 0x0001 }) = true ∧
    endsAs { State.reset with bc := 0x0001 } [0x91] (fun s => { s with af := 0xFF70, pc := 0x0001 }) = true := by decide

/-- Rule R164: V61, V62, V63. -/
theorem test_R164_sbc :
    endsAs { State.reset with af := 0x3B10, hl := 0x2A00 } [0x9C]
      (fun s => { s with af := 0x1040, pc := 0x0001 }) = true ∧
    endsAs { State.reset with af := 0x0010 } [0xDE, 0xFF]
      (fun s => { s with af := 0x00F0, pc := 0x0002, counter := 1 }) = true ∧
    endsAs { State.reset with af := 0x4210 } [0x9F] (fun s => { s with af := 0xFF70, pc := 0x0001 }) = true := by decide

/-- Rule R165: V64, V65. -/
theorem test_R165_and :
    endsAs { State.reset with af := 0x5A50 } [0xA7] (fun s => { s with af := 0x5A20, pc := 0x0001 }) = true ∧
    endsAs { State.reset with af := 0xFF10 } [0xE6, 0x00]
      (fun s => { s with af := 0x00A0, pc := 0x0002, counter := 1 }) = true := by decide

/-- Rule R166: V66, V67. -/
theorem test_R166_xor :
    endsAs { State.reset with af := 0x5A70 } [0xAF] (fun s => { s with af := 0x0080, pc := 0x0001 }) = true ∧
    endsAs { State.reset with af := 0xF000 } [0xEE, 0x0F]
      (fun s => { s with af := 0xFF00, pc := 0x0002, counter := 1 }) = true := by decide

/-- Rule R167: V68, V69. -/
theorem test_R167_or :
    endsAs { State.reset with af := 0x5AF0, bc := 0x0003 } [0xB1]
      (fun s => { s with af := 0x5B00, pc := 0x0001 }) = true ∧
    endsAs State.reset [0xB7] (fun s => { s with af := 0x0080, pc := 0x0001 }) = true := by decide

/-- Rule R168: V70, V71, V72. -/
theorem test_R168_cp :
    endsAs { State.reset with af := 0x3C00, bc := 0x2F00 } [0xB8]
      (fun s => { s with af := 0x3C60, pc := 0x0001 }) = true ∧
    endsAs { State.reset with af := 0x3C00 } [0xFE, 0x3C]
      (fun s => { s with af := 0x3CC0, pc := 0x0002, counter := 1 }) = true ∧
    endsAs { State.reset with af := 0x3C00 } [0xFE, 0x40]
      (fun s => { s with af := 0x3C50, pc := 0x0002, counter := 1 }) = true := by decide

/-- Rule R169: V73, V74, V75. -/
theorem test_R169_inc_r :
    endsAs { State.reset with af := 0x0010, bc := 0x0011 } [0x0C]
      (fun s => { s with bc := 0x0012, pc := 0x0001 }) = true ∧
    endsAs { State.reset with af := 0x0500, bc := 0xFF00 } [0x04]
      (fun s => { s with af := 0x05A0, bc := 0x0000, pc := 0x0001 }) = true ∧
    endsAs { State.reset with af := 0x0F40 } [0x3C] (fun s => { s with af := 0x1020, pc := 0x0001 }) = true := by decide

/-- Rule R170: V76, V77. -/
theorem test_R170_inc_indHL :
    endsAs { State.reset with hl := 0x8000, vram := [(0x0000, 0xFF)] } [0x34]
      (fun s => { s with af := 0x00A0, pc := 0x0001, counter := 2, vram := Memory.writeCell s.vram 0x0000 0x00 }) = true ∧
    endsAs { State.reset with hl := 0x0010 } [0x34]
      (fun s => { s with pc := 0x0001, fault := some (.accessError 0x0010 .write) }) = true := by decide

/-- Rule R171: V78, V79, V80. -/
theorem test_R171_dec_r :
    endsAs { State.reset with af := 0x0010, bc := 0x0100 } [0x05]
      (fun s => { s with af := 0x00D0, bc := 0x0000, pc := 0x0001 }) = true ∧
    endsAs State.reset [0x0D] (fun s => { s with af := 0x0060, bc := 0x00FF, pc := 0x0001 }) = true ∧
    endsAs { State.reset with af := 0x1000 } [0x3D] (fun s => { s with af := 0x0F60, pc := 0x0001 }) = true := by decide

/-- Rule R172: V81. -/
theorem test_R172_dec_indHL :
    endsAs { State.reset with hl := 0xE000 } [0x35]
      (fun s => { s with af := 0x0060, pc := 0x0001, counter := 2, vram := Memory.writeCell s.vram 0x0000 0xFF }) = true := by decide

/-- Rule R173: V82, V83, V84, V85, V86, V87. -/
theorem test_R173_daa :
    endsAs { State.reset with af := 0x7D00 } [0x27] (fun s => { s with af := 0x8300, pc := 0x0001 }) = true ∧
    endsAs { State.reset with af := 0x9A00 } [0x27] (fun s => { s with af := 0x0090, pc := 0x0001 }) = true ∧
    endsAs { State.reset with af := 0x0F40 } [0x27] (fun s => { s with pc := 0x0001 }) = true ∧
    endsAs { State.reset with af := 0xF060 } [0x27] (fun s => { s with af := 0xEA40, pc := 0x0001 }) = true ∧
    endsAs { State.reset with af := 0x0070 } [0x27] (fun s => { s with af := 0x9A50, pc := 0x0001 }) = true ∧
    endsAs State.reset [0x27] (fun s => { s with af := 0x0080, pc := 0x0001 }) = true := by decide

/-- Rule R174: V88. -/
theorem test_R174_cpl :
    endsAs { State.reset with af := 0x3580 } [0x2F] (fun s => { s with af := 0xCAE0, pc := 0x0001 }) = true := by decide

/-- Rule R175: V89. -/
theorem test_R175_scf :
    endsAs { State.reset with af := 0x00E0 } [0x37] (fun s => { s with af := 0x0090, pc := 0x0001 }) = true := by decide

/-- Rule R176: V90, V91. -/
theorem test_R176_ccf :
    endsAs { State.reset with af := 0x0090 } [0x3F] (fun s => { s with af := 0x0080, pc := 0x0001 }) = true ∧
    endsAs { State.reset with af := 0x0060 } [0x3F] (fun s => { s with af := 0x0010, pc := 0x0001 }) = true := by decide

/-- Rule R190: V100, V101, V102. -/
theorem test_R190_inc_rr :
    endsAs { State.reset with de := 0x0104 } [0x13]
      (fun s => { s with de := 0x0105, pc := 0x0001, counter := 1 }) = true ∧
    endsAs { State.reset with af := 0x00B0, sp := 0xFFFF } [0x33]
      (fun s => { s with sp := 0x0000, pc := 0x0001, counter := 1 }) = true ∧
    endsAs { State.reset with hl := 0x12FF } [0x23]
      (fun s => { s with hl := 0x1300, pc := 0x0001, counter := 1 }) = true := by decide

/-- Rule R191: V103. -/
theorem test_R191_dec_rr :
    endsAs { State.reset with af := 0x0080 } [0x0B]
      (fun s => { s with bc := 0xFFFF, pc := 0x0001, counter := 1 }) = true := by decide

/-- Rule R192: V104, V105, V106, V107. -/
theorem test_R192_add_hl_rr :
    endsAs { State.reset with af := 0x0080, bc := 0x0605, hl := 0x8A23 } [0x09]
      (fun s => { s with af := 0x00A0, hl := 0x9028, pc := 0x0001, counter := 1 }) = true ∧
    endsAs { State.reset with hl := 0x8A23 } [0x29]
      (fun s => { s with af := 0x0030, hl := 0x1446, pc := 0x0001, counter := 1 }) = true ∧
    endsAs { State.reset with af := 0x0080, bc := 0x0001, hl := 0xFFFF } [0x09]
      (fun s => { s with af := 0x00B0, hl := 0x0000, pc := 0x0001, counter := 1 }) = true ∧
    endsAs { State.reset with af := 0x0050, hl := 0x0FFF, sp := 0x0001 } [0x39]
      (fun s => { s with af := 0x0020, hl := 0x1000, pc := 0x0001, counter := 1 }) = true := by decide

/-- Rule R193: V108, V109, V110. -/
theorem test_R193_add_sp_e8 :
    endsAs { State.reset with sp := 0xFFF8 } [0xE8, 0x02]
      (fun s => { s with sp := 0xFFFA, pc := 0x0002, counter := 3 }) = true ∧
    endsAs { State.reset with af := 0x0080, sp := 0x0001 } [0xE8, 0xFF]
      (fun s => { s with af := 0x0030, sp := 0x0000, pc := 0x0002, counter := 3 }) = true ∧
    endsAs State.reset [0xE8, 0x80] (fun s => { s with sp := 0xFF80, pc := 0x0002, counter := 3 }) = true := by decide

/-- Rule R200: V120, V121. -/
theorem test_R200_rlca :
    endsAs { State.reset with af := 0x8500 } [0x07] (fun s => { s with af := 0x0B10, pc := 0x0001 }) = true ∧
    endsAs { State.reset with af := 0x0080 } [0x07] (fun s => { s with af := 0x0000, pc := 0x0001 }) = true := by decide

/-- Rule R201: V122. -/
theorem test_R201_rrca :
    endsAs { State.reset with af := 0x3B00 } [0x0F] (fun s => { s with af := 0x9D10, pc := 0x0001 }) = true := by decide

/-- Rule R202: V123, V124. -/
theorem test_R202_rla :
    endsAs { State.reset with af := 0x9510 } [0x17] (fun s => { s with af := 0x2B10, pc := 0x0001 }) = true ∧
    endsAs { State.reset with af := 0x8000 } [0x17] (fun s => { s with af := 0x0010, pc := 0x0001 }) = true := by decide

/-- Rule R203: V125. -/
theorem test_R203_rra :
    endsAs { State.reset with af := 0x8100 } [0x1F] (fun s => { s with af := 0x4010, pc := 0x0001 }) = true := by decide

/-- Rule R205: V126, V127. -/
theorem test_R205_rlc :
    endsAs { State.reset with bc := 0x8500 } [0xCB, 0x00]
      (fun s => { s with af := 0x0010, bc := 0x0B00, pc := 0x0002, counter := 1 }) = true ∧
    endsAs State.reset [0xCB, 0x07] (fun s => { s with af := 0x0080, pc := 0x0002, counter := 1 }) = true := by decide

/-- Rule R206: V128. -/
theorem test_R206_rrc :
    endsAs { State.reset with bc := 0x0001 } [0xCB, 0x09]
      (fun s => { s with af := 0x0010, bc := 0x0080, pc := 0x0002, counter := 1 }) = true := by decide

/-- Rule R207: V129, V130. -/
theorem test_R207_rl :
    endsAs { State.reset with hl := 0x0080 } [0xCB, 0x15]
      (fun s => { s with af := 0x0090, hl := 0x0000, pc := 0x0002, counter := 1 }) = true ∧
    endsAs { State.reset with af := 0x0010, hl := 0x8000, vram := [(0x0000, 0x11)] } [0xCB, 0x16]
      (fun s => { s with af := 0x0000, pc := 0x0002, counter := 3, vram := Memory.writeCell s.vram 0x0000 0x23 }) = true := by decide

/-- Rule R208: V131. -/
theorem test_R208_rr :
    endsAs { State.reset with af := 0x0100 } [0xCB, 0x1F]
      (fun s => { s with af := 0x0090, pc := 0x0002, counter := 1 }) = true := by decide

/-- Rule R209: V132. -/
theorem test_R209_sla :
    endsAs { State.reset with de := 0x8000 } [0xCB, 0x22]
      (fun s => { s with af := 0x0090, de := 0x0000, pc := 0x0002, counter := 1 }) = true := by decide

/-- Rule R210: V133, V134. -/
theorem test_R210_sra :
    endsAs { State.reset with af := 0x8A00 } [0xCB, 0x2F]
      (fun s => { s with af := 0xC500, pc := 0x0002, counter := 1 }) = true ∧
    endsAs { State.reset with bc := 0x0100 } [0xCB, 0x28]
      (fun s => { s with af := 0x0090, bc := 0x0000, pc := 0x0002, counter := 1 }) = true := by decide

/-- Rule R211: V135, V136. -/
theorem test_R211_swap :
    endsAs { State.reset with af := 0xF010 } [0xCB, 0x37]
      (fun s => { s with af := 0x0F00, pc := 0x0002, counter := 1 }) = true ∧
    endsAs { State.reset with hl := 0x8000 } [0xCB, 0x36]
      (fun s => { s with af := 0x0080, pc := 0x0002, counter := 3 }) = true := by decide

/-- Rule R212: V137, V138. -/
theorem test_R212_srl :
    endsAs { State.reset with af := 0xFF00 } [0xCB, 0x3F]
      (fun s => { s with af := 0x7F10, pc := 0x0002, counter := 1 }) = true ∧
    endsAs { State.reset with bc := 0x0100 } [0xCB, 0x38]
      (fun s => { s with af := 0x0090, bc := 0x0000, pc := 0x0002, counter := 1 }) = true := by decide

/-- Rule R213: V139, V140, V141, V142, V143. -/
theorem test_R213_bit :
    endsAs { State.reset with hl := 0x9F00 } [0xCB, 0x7C]
      (fun s => { s with af := 0x0020, pc := 0x0002, counter := 1 }) = true ∧
    endsAs { State.reset with af := 0x0010, hl := 0x7F00 } [0xCB, 0x7C]
      (fun s => { s with af := 0x00B0, pc := 0x0002, counter := 1 }) = true ∧
    endsAs { State.reset with hl := 0x8000, vram := [(0x0000, 0xFE)] } [0xCB, 0x46]
      (fun s => { s with af := 0x00A0, pc := 0x0002, counter := 2 }) = true ∧
    endsAs { State.reset with af := 0x1200, hl := 0x9F00, params := { Params.default with bitWritesA := true } } [0xCB, 0x7C]
      (fun s => { s with af := 0x8020, pc := 0x0002, counter := 1 }) = true ∧
    endsAs State.reset [0xCB, 0x46] (fun s => { s with af := 0x0020, pc := 0x0002, counter := 2 }) = true := by decide

/-- Rule R214: V144, V145. -/
theorem test_R214_res :
    endsAs { State.reset with af := 0xFF00 } [0xCB, 0x87]
      (fun s => { s with af := 0xFE00, pc := 0x0002, counter := 1 }) = true ∧
    endsAs State.reset [0xCB, 0x86]
      (fun s => { s with pc := 0x0002, fault := some (.accessError 0x0000 .write) }) = true := by decide

/-- Rule R215: V146, V147. -/
theorem test_R215_set :
    endsAs State.reset [0xCB, 0xD3] (fun s => { s with de := 0x0004, pc := 0x0002, counter := 1 }) = true ∧
    endsAs { State.reset with af := 0x00F0, hl := 0x9FFF } [0xCB, 0xFE]
      (fun s => { s with pc := 0x0002, counter := 3, vram := Memory.writeCell s.vram 0x1FFF 0x80 }) = true := by decide

/-- Rule R231: V150, V151, V152. -/
theorem test_R231_jr :
    endsAs { State.reset with pc := 0x8010 } [0x18, 0x05] (fun s => { s with pc := 0x8017, counter := 2 }) = true ∧
    endsAs { State.reset with pc := 0x8010 } [0x18, 0xFE] (fun s => { s with counter := 2 }) = true ∧
    endsAs State.reset [0x18, 0xFD] (fun s => { s with pc := 0xFFFF, counter := 2 }) = true := by decide

/-- Rule R232: V153, V154, V155, V156. -/
theorem test_R232_jr_cc :
    endsAs { State.reset with pc := 0x800A } [0x20, 0xFB] (fun s => { s with pc := 0x8007, counter := 2 }) = true ∧
    endsAs { State.reset with af := 0x0080, pc := 0x800A } [0x20, 0xFB]
      (fun s => { s with pc := 0x800C, counter := 1 }) = true ∧
    endsAs { State.reset with af := 0x0010 } [0x38, 0x10] (fun s => { s with pc := 0x0012, counter := 2 }) = true ∧
    endsAs { State.reset with af := 0x0010 } [0x30, 0x10] (fun s => { s with pc := 0x0002, counter := 1 }) = true := by decide

/-- Rule R233: V157. -/
theorem test_R233_jp :
    endsAs State.reset [0xC3, 0x00, 0x80] (fun s => { s with pc := 0x8000, counter := 3 }) = true := by decide

/-- Rule R234: V158, V159, V160. -/
theorem test_R234_jp_cc :
    endsAs { State.reset with af := 0x0010 } [0xDA, 0x34, 0x12]
      (fun s => { s with pc := 0x1234, counter := 3 }) = true ∧
    endsAs State.reset [0xDA, 0x34, 0x12] (fun s => { s with pc := 0x0003, counter := 2 }) = true ∧
    endsAs { State.reset with af := 0x0080 } [0xC2, 0x00, 0x90]
      (fun s => { s with pc := 0x0003, counter := 2 }) = true := by decide

/-- Rule R235: V161. -/
theorem test_R235_jp_hl :
    endsAs { State.reset with hl := 0x8000 } [0xE9] (fun s => { s with pc := 0x8000 }) = true := by decide

/-- Rule R236: V162, V163. -/
theorem test_R236_call :
    endsAs { State.reset with sp := 0xA000 } [0xCD, 0x34, 0x12]
      (fun s => { s with sp := 0x9FFE, pc := 0x1234, counter := 5, vram := Memory.writeCell s.vram 0x1FFE 0x03 }) = true ∧
    endsAs { State.reset with sp := 0xFFFE } [0xCD, 0x34, 0x12]
      (fun s => { s with sp := 0xFFFC, pc := 0x0003, fault := some (.accessError 0xFFFC .write) }) = true := by decide

/-- Rule R237: V164, V165. -/
theorem test_R237_call_cc :
    endsAs { State.reset with af := 0x0080, sp := 0xA000, pc := 0x8040 } [0xCC, 0x00, 0x81]
      (fun s => { s with sp := 0x9FFE, pc := 0x8100, counter := 5, vram := Memory.writeCell (Memory.writeCell s.vram 0x1FFE 0x43) 0x1FFF 0x80 }) = true ∧
    endsAs { State.reset with sp := 0xFFFE, pc := 0x8040 } [0xCC, 0x00, 0x81]
      (fun s => { s with pc := 0x8043, counter := 2 }) = true := by decide

/-- Rule R238: V166, V167. -/
theorem test_R238_ret :
    endsAs { State.reset with sp := 0x9FFE, vram := [(0x1FFE, 0x03)] } [0xC9]
      (fun s => { s with sp := 0xA000, pc := 0x0003, counter := 3 }) = true ∧
    endsAs State.reset [0xC9] (fun s => { s with sp := 0x0002, pc := 0x00C9, counter := 3 }) = true := by decide

/-- Rule R239: V168, V169. -/
theorem test_R239_ret_cc :
    endsAs { State.reset with sp := 0x9FFE, vram := [(0x1FFE, 0x03)] } [0xD0]
      (fun s => { s with sp := 0xA000, pc := 0x0003, counter := 4 }) = true ∧
    endsAs { State.reset with sp := 0xFFFE } [0xD8] (fun s => { s with pc := 0x0001, counter := 1 }) = true := by decide

/-- Rule R240: V170. -/
theorem test_R240_reti :
    endsAs { State.reset with sp := 0x9FFE, vram := [(0x1FFE, 0x40), (0x1FFF, 0x80)] } [0xD9]
      (fun s => { s with sp := 0xA000, pc := 0x8040, counter := 3 }) = true := by decide

/-- Rule R241: V171, V172. -/
theorem test_R241_rst :
    endsAs { State.reset with sp := 0xA000, pc := 0x8020 } [0xEF]
      (fun s => { s with sp := 0x9FFE, pc := 0x0028, counter := 3, vram := Memory.writeCell (Memory.writeCell s.vram 0x1FFE 0x21) 0x1FFF 0x80 }) = true ∧
    endsAs { State.reset with pc := 0x8020 } [0xFF]
      (fun s => { s with sp := 0xFFFE, pc := 0x8021, fault := some (.accessError 0xFFFE .write) }) = true := by decide

/-- Rule R250: V180. -/
theorem test_R250_nop :
    endsAs State.reset [0x00] (fun s => { s with pc := 0x0001 }) = true := by decide

/-- Rule R251: V181. -/
theorem test_R251_ei :
    endsAs { State.reset with pc := 0x8005 } [0xFB] (fun s => { s with pc := 0x8006 }) = true := by decide

/-- Rule R252: V182. -/
theorem test_R252_di :
    endsAs State.reset [0xF3] (fun s => { s with pc := 0x0001 }) = true := by decide

/-- Rule R253: V183. -/
theorem test_R253_halt :
    endsAs { State.reset with pc := 0x8004 } [0x76] (fun s => { s with pc := 0x8005, halted := true }) = true := by decide

/-- Rule R254: V184, V185. -/
theorem test_R254_stop :
    endsAs State.reset [0x10, 0x00] (fun s => { s with pc := 0x0002, halted := true }) = true ∧
    endsAs State.reset [0x10, 0x42] (fun s => { s with pc := 0x0002, halted := true }) = true := by decide

/-! ### The engine, the router, the host (spec/95_test_vectors.md sections 1 and 3) -/

/-- Section 1.6: a build without 0xD3 in `MAPPED_CB` raises the extended decode error, and a build without a primary opcode
the primary one (rule R92). -/
theorem test_R92_smaller_tables :
    endsAs { State.reset with params := { Params.default with leftOutCB := [0xD3] } } [0xCB, 0xD3]
      (fun s => { s with pc := 0x0002, fault := some (.decodeError .extended 0xD3 0x0000) }) = true ∧
    endsAs { State.reset with params := { Params.default with leftOutPrimary := [0xC3] } } [0xC3, 0x34, 0x12]
      (fun s => { s with pc := 0x0001, fault := some (.decodeError .primary 0xC3 0x0000) }) = true := by decide

/-- Section 1.6: a faulted machine does nothing (rule R274). -/
theorem test_R274_faulted_machine_stays :
    endsAs { State.reset with fault := some (.decodeError .primary 0xD3 0x0000), pc := 0x0001 } [0x3C] id = true := by decide

/-- Program P6, tick 3: while the counter is above 0 a tick only counts down (rule R303, rule R306). -/
theorem test_R303_countdown :
    endsAs { State.reset with pc := 0x0005, sp := 0x9FFE, counter := 5 } [0x00] (fun s => { s with counter := 4 }) = true := by
  decide

/-- A machine for the router vectors of section 3: `boot[a] = a` and `vram[k] = 0xA0 xor k` where a vector looks. -/
def routed : State :=
  { State.reset with
    boot := [(0xFF, 0xFF)]
    vram := [(0x0000, 0xA0), (0x0010, 0x34), (0x0011, 0x12), (0x0123, 0x83), (0x1DFF, 0x5F), (0x1FFF, 0x5F)] }

/-- The read answers the byte. -/
def reads (s : State) (a : Word) (v : Byte) : Bool :=
  match s.read8 a with
  | .ok u => u == v
  | .error _ => false

/-- The read answers the error of its address. -/
def readFails (s : State) (a : Word) : Bool :=
  match s.read8 a with
  | .ok _ => false
  | .error e => decide (e = .accessError a .read)

/-- The write answers the state. -/
def writes (s : State) (a : Word) (v : Byte) (t : State) : Bool :=
  match s.write8 a v with
  | .ok u => decide (u = t)
  | .error _ => false

/-- The write answers the error of its address. -/
def writeFails (s : State) (a : Word) (v : Byte) : Bool :=
  match s.write8 a v with
  | .ok _ => false
  | .error e => decide (e = .accessError a .write)

theorem test_router_reads :
    reads routed 0x0000 0x00 ∧ reads routed 0x00FF 0xFF ∧ reads routed 0x8000 0xA0 ∧ reads routed 0x8123 0x83 ∧
      reads routed 0x9FFF 0x5F ∧ reads routed 0xE000 0xA0 ∧ reads routed 0xE123 0x83 ∧ reads routed 0xFDFF 0x5F ∧
      reads routed 0xFF26 0x00 := by decide

theorem test_router_writes :
    writeFails routed 0x0000 0x5A ∧ writeFails routed 0x00FF 0x5A ∧
      writes routed 0xE123 0x5A { routed with vram := Memory.writeCell routed.vram 0x0123 0x5A } ∧
      writes routed 0xFDFF 0x5A { routed with vram := Memory.writeCell routed.vram 0x1DFF 0x5A } ∧
      writes routed 0x9FFF 0x5A { routed with vram := Memory.writeCell routed.vram 0x1FFF 0x5A } ∧
      writes routed 0xFF26 0x5A routed := by decide

theorem test_router_refusals :
    [0x0100, 0x0FFF, 0x1000, 0x7FFF, 0xA000, 0xC000, 0xDFFF, 0xFE00, 0xFF00, 0xFF25, 0xFF27, 0xFF80, 0xFFFF].all
      (fun a => readFails routed a && writeFails routed a 0x5A) = true := by decide

/-- VW1 to VW6. -/
theorem test_word_accesses :
    (match routed.read16 0x8010 with
      | .ok v => v == 0x1234
      | .error _ => false) = true ∧
    (match State.reset.write16 0x9FFE 0xBEEF with
      | .ok t => decide (t.vram = [(0x1FFE, 0xEF), (0x1FFF, 0xBE)])
      | .error _ => false) = true ∧
    (match State.reset.write16 0x9FFF 0xBEEF with
      | .ok _ => false
      | .error (e, t) => decide (e = .accessError 0xA000 .write) && decide (t.vram = [(0x1FFF, 0xEF)])) = true ∧
    [(0x00FF, 0x0100), (0xFDFF, 0xFE00), (0xFFFF, 0xFFFF)].all (fun p => match routed.read16 p.1 with
      | .ok _ => false
      | .error e => decide (e = .accessError p.2 .read)) = true := by
  refine ⟨?_, ?_, ?_, ?_⟩ <;> decide

/-- Section 1.7: the two views of a slot. -/
theorem test_register_views :
    (State.reset.setBC 0x1234).b = 0x12 ∧ (State.reset.setBC 0x1234).c = 0x34 ∧
      ((State.reset.setD 0xAB).setE 0xCD).de = 0xABCD ∧ ((State.reset.setHL 0x9FFF).setL 0x00).hl = 0x9F00 ∧
      (State.reset.setAF 0x12FF).af = 0x12F0 ∧ (State.reset.setF 0x0F).f = 0x00 := by decide

/-- VA1 to VA7. The six calls of VA2 and the 239 of VA5 are folded over the driver alone. -/
theorem test_driver :
    Driver.start.cycles 4194304 1000 = 1 ∧ Driver.start.after 4194304 1000 = ⟨194304000, 0⟩ ∧
      Nat.repeat (fun d => d.after 4194304 1000) 6 Driver.start = ⟨165824000, 1⟩ ∧
      Driver.start.cycles 4194304 6000 = 6 ∧ Driver.start.after 4194304 6000 = ⟨165824000, 1⟩ ∧
      Driver.start.cycles 4194304 (10 ^ 9) = 1048576 ∧ Driver.start.after 4194304 (10 ^ 9) = ⟨0, 0⟩ ∧
      Driver.start.cycles 4194304 239 = 0 ∧ Driver.start.after 4194304 239 = ⟨2438656, 1⟩ ∧
      Driver.start.cycles 4194304 0 = 0 ∧ Driver.start.after 4194304 0 = Driver.start := by decide

/-- Rule R289: the host's own `Tick()` runs one machine cycle and ends the presets. -/
theorem test_R289_tick_ends_the_presets (p : Preset) :
    (System.tick ⟨State.reset, Driver.start, none, false⟩ =
      .next ⟨{ State.reset with pc := 0x0001 }, Driver.start, none, true⟩) ∧
    System.preset ⟨{ State.reset with pc := 0x0001 }, Driver.start, none, true⟩ p = none := ⟨rfl, rfl⟩

/-- A cartridge image of `n` bytes that are 0 but for the three header bytes (at least 0x0150 bytes). -/
def cartridge (n : Nat) (controller rom ram : Byte) : List Byte :=
  List.replicate 0x0147 0 ++ ([controller, rom, ram] ++ List.replicate (n - 0x014A) 0)

theorem cartridge_header {n : Nat} (h : 0x0150 ≤ n) (controller rom ram : Byte) :
    (cartridge n controller rom ram).length = n ∧ (cartridge n controller rom ram)[0x0147]? = some controller ∧
      (cartridge n controller rom ram)[0x0148]? = some rom ∧ (cartridge n controller rom ram)[0x0149]? = some ram := by
  refine ⟨by simp [cartridge, -List.reduceReplicate]; omega, ?_, ?_, ?_⟩ <;>
    simp [cartridge, -List.reduceReplicate, List.getElem?_append]

/-- What the load of such an image answers, by the three header bytes and the size. -/
theorem cartridge_load {n : Nat} (h : 0x0150 ≤ n) (controller rom ram : Byte) :
    checkCartridge (cartridge n controller rom ram) =
      match romSizeOfCode rom with
      | none => .error .invalidRomSizeCode
      | some romSize =>
        if n ≠ romSize then .error .cartridgeSizeMismatch
        else
          match ramSizeOfCode ram with
          | none => .error .invalidRamSizeCode
          | some ramSize =>
            if controller ≠ 0x00 then .error .unsupportedController
            else .ok ⟨romSize, ramSize, ((cartridge n controller rom ram).drop 0x0134).take 16⟩ := by
  obtain ⟨hl, h1, h2, h3⟩ := cartridge_header h controller rom ram
  unfold checkCartridge headerByte
  simp only [List.getD, hl, h1, h2, h3, Option.getD_some]
  exact (if_neg (by omega)).trans rfl

/-- VL1 to VL3: loaded, with the RAM size recorded. -/
theorem test_cartridges_that_load :
    (∃ t, checkCartridge (cartridge 32768 0x00 0x00 0x00) = .ok ⟨32768, 0, t⟩) ∧
      (∃ t, checkCartridge (cartridge 65536 0x00 0x01 0x03) = .ok ⟨65536, 32768, t⟩) ∧
      ∃ t, checkCartridge (cartridge 1179648 0x00 0x52 0x00) = .ok ⟨1179648, 0, t⟩ := by
  refine ⟨⟨_, (cartridge_load (by decide) _ _ _).trans rfl⟩, ⟨_, (cartridge_load (by decide) _ _ _).trans rfl⟩,
    ⟨_, (cartridge_load (by decide) _ _ _).trans rfl⟩⟩

/-- VL4 to VL10 and section 1.4: refused, in the order of the checks. -/
theorem test_cartridges_that_are_refused :
    checkCartridge (cartridge 32768 0x00 0x09 0x00) = .error .invalidRomSizeCode ∧
      checkCartridge (cartridge 16384 0x00 0x09 0x00) = .error .invalidRomSizeCode ∧
      checkCartridge (cartridge 16384 0x00 0x00 0x07) = .error .cartridgeSizeMismatch ∧
      checkCartridge (cartridge 32768 0x00 0x00 0x06) = .error .invalidRamSizeCode ∧
      checkCartridge (cartridge 32768 0x01 0x00 0x06) = .error .invalidRamSizeCode ∧
      checkCartridge (cartridge 32768 0x01 0x00 0x00) = .error .unsupportedController ∧
      checkCartridge (List.replicate 0x014F 0) = .error .cartridgeSizeMismatch :=
  ⟨(cartridge_load (by decide) _ _ _).trans rfl, (cartridge_load (by decide) _ _ _).trans rfl,
    (cartridge_load (by decide) _ _ _).trans rfl, (cartridge_load (by decide) _ _ _).trans rfl,
    (cartridge_load (by decide) _ _ _).trans rfl, (cartridge_load (by decide) _ _ _).trans rfl,
    by unfold checkCartridge; rw [List.length_replicate, if_pos (by decide)]⟩

/-- VL11 and VL12. -/
theorem test_boot_image_sizes :
    System.start (List.replicate 255 0) [] Params.default = .error .bootImageSize ∧
      System.start (List.replicate 257 0) [] Params.default = .error .bootImageSize := by
  constructor <;> simp [System.start, State.start, bootImageSize, -List.reduceReplicate]

/-- Section 1.6, `CB D3` and `D3`, placed as the table's words (log entry 7, log entry 8). -/
theorem test_withFetchWord :
    (step (State.reset.withFetchWord 16 0xCBD3) =
      .next { State.reset.withFetchWord 16 0xCBD3 with de := 0x0004, pc := 0x0002, counter := 1 }) ∧
    step (State.reset.withFetchWord 8 0xD3) =
      .next { State.reset.withFetchWord 8 0xD3 with pc := 0x0001, fault := some (.decodeError .primary 0xD3 0x0000) } :=
  ⟨rfl, rfl⟩

/-! ### Witnesses: a state and operands that meet the hypotheses of each statement -/

theorem reads_ok {s : State} {a : Word} {v : Byte} (h : reads s a v = true) : s.read8 a = .ok v := by
  unfold reads at h
  split at h <;> simp_all

theorem readFails_error {s : State} {a : Word} (h : readFails s a = true) : s.read8 a = .error (.accessError a .read) := by
  unfold readFails at h
  split at h <;> simp_all

theorem writes_ok {s t : State} {a : Word} {v : Byte} (h : writes s a v t = true) : s.write8 a v = .ok t := by
  unfold writes at h
  split at h <;> simp_all

theorem writeFails_error {s : State} {a : Word} {v : Byte} (h : writeFails s a v = true) :
    s.write8 a v = .error (.accessError a .write) := by
  unfold writeFails at h
  split at h <;> simp_all

/-- An access that answers an error answers no value. -/
theorem never_ok {ε α : Type} {r : Except ε α} {e : ε} (h : r = .error e) : ∀ v, r ≠ .ok v := by
  intro v hv
  rw [h] at hv
  cases hv

/-- A machine with a CALL at the end of the boot image, a word on the stack, its pointers in video memory or its echo, and
`C` the offset of the control register in the top page. -/
def working : State :=
  { State.reset with
    af := 0x9990, bc := 0x8026, de := 0x9FFF, hl := 0xFDFF, sp := 0x9FFE, pc := 0x00FD
    boot := [(0xFD, 0xCD), (0xFE, 0x34), (0xFF, 0x12)], vram := [(0x1DFF, 0x42), (0x1FFE, 0x03), (0x1FFF, 0x80)] }

/-- The same with every pointer where no access is accepted. -/
def astray : State :=
  { working with af := 0x1230, bc := 0x0127, de := 0xA000, hl := 0xFE00, sp := 0xA000, pc := 0x0100 }

/-- The step answers a next state. -/
def steps (s : State) : Bool :=
  match step s with
  | .next _ => true
  | .fault _ => false
  | .refused _ => false

theorem steps_next {s : State} (h : steps s = true) : ∃ t, step s = .next t := by
  unfold steps at h
  split at h <;> simp_all

theorem witness_EncodeOfDecodeIsTheBytes : decode [0xCD, 0x34, 0x12, 0x76] = .ok (.callA16 0x1234, [0x76]) := rfl

/-- One opcode for each length. -/
theorem witness_LengthIsToldByTheFirstByte :
    decode (0xCB :: [0x7C]) = .ok (.bit7H, []) ∧ decode (0xC3 :: [0x00, 0x80]) = .ok (.jpA16 0x8000, []) ∧
      decode (0x76 :: []) = .ok (.halt, []) := ⟨rfl, rfl, rfl⟩

theorem witness_FlagByteLowNibbleStaysZero : (∃ t, step working = .next t) ∧ working.f &&& 0x0F = 0 :=
  ⟨steps_next (by decide), by decide⟩

/-- The clauses of the partition table's statement, by address. -/
def clausesOf (a : Word) : List Bool :=
  [decide (a.toNat ≤ 0x00FF), decide (0x0100 ≤ a.toNat ∧ a.toNat ≤ 0x7FFF), decide (0x8000 ≤ a.toNat ∧ a.toNat ≤ 0x9FFF),
    decide (0xA000 ≤ a.toNat ∧ a.toNat ≤ 0xDFFF), decide (0xE000 ≤ a.toNat ∧ a.toNat ≤ 0xFDFF),
    decide (0xFE00 ≤ a.toNat ∧ a.toNat ≠ 0xFF26), decide (a.toNat = 0xFF26)]

/-- The ends of every range of addresses, each in its own clause and in no other. -/
theorem witness_AccessesFollowThePartitionTable :
    [0x0000, 0x00FF, 0x0100, 0x7FFF, 0x8000, 0x9FFF, 0xA000, 0xDFFF].map (fun a => (clausesOf a).findIdx id) =
        [0, 0, 1, 1, 2, 2, 3, 3] ∧
      [0xE000, 0xFDFF, 0xFE00, 0xFF25, 0xFF27, 0xFFFF, 0xFF26].map (fun a => (clausesOf a).findIdx id) =
        [4, 4, 5, 5, 5, 5, 6] ∧
      [0x0000, 0x00FF, 0x0100, 0x7FFF, 0x8000, 0x9FFF, 0xA000, 0xDFFF, 0xE000, 0xFDFF, 0xFE00, 0xFF25, 0xFF27, 0xFFFF,
        0xFF26].all (fun a => (clausesOf a).count true == 1) = true := by decide

/-- Offsets 0 and 0x1DFF have an echo, 0x1E00 and 0x1FFF have none; 0x8001 is another address of video memory. -/
theorem witness_VideoMemoryAndItsEchoAreOneStore :
    Memory.wf vramSize working.vram = true ∧ [0, 0x1DFF, 0x1E00, 0x1FFF].all (fun k => decide (k < 0x2000)) = true ∧
      [0, 0x1DFF].all (fun k => decide (k < 0x1E00)) = true ∧ [0x1E00, 0x1FFF].all (fun k => !decide (k < 0x1E00)) = true ∧
      (0x8001 : Word).toNat ≠ 0x8000 + 0 ∧ ¬(0 < 0x1E00 ∧ (0x8001 : Word).toNat = 0xE000 + 0) := by decide

theorem witness_WordReadIsTwoByteReads :
    (working.read8 0x9FFE = .ok 0x03 ∧ working.read8 (0x9FFE + 1) = .ok 0x80) ∧
      working.read8 0x0100 = .error (.accessError 0x0100 .read) ∧
      working.read8 0x9FFF = .ok 0x80 ∧ working.read8 (0x9FFF + 1) = .error (.accessError (0x9FFF + 1) .read) :=
  ⟨⟨reads_ok (by decide), reads_ok (by decide)⟩, readFails_error (by decide), reads_ok (by decide),
    readFails_error (by decide)⟩

theorem witness_WordWriteIsTwoByteWrites :
    (∃ m t, working.write8 0x9FFE ((0xBEEF : Word).extractLsb' 0 8) = .ok m ∧
        m.write8 (0x9FFE + 1) ((0xBEEF : Word).extractLsb' 8 8) = .ok t) ∧
      (∃ e, working.write8 0x00FF ((0xBEEF : Word).extractLsb' 0 8) = .error e) ∧
      ∃ m e, working.write8 0x9FFF ((0xBEEF : Word).extractLsb' 0 8) = .ok m ∧
        m.write8 (0x9FFF + 1) ((0xBEEF : Word).extractLsb' 8 8) = .error e :=
  ⟨⟨{ working with vram := Memory.writeCell working.vram 0x1FFE 0xEF },
      { working with vram := Memory.writeCell (Memory.writeCell working.vram 0x1FFE 0xEF) 0x1FFF 0xBE }, writes_ok (by decide), writes_ok (by decide)⟩,
    ⟨_, writeFails_error (by decide)⟩,
    ⟨{ working with vram := Memory.writeCell working.vram 0x1FFF 0xEF }, _, writes_ok (by decide),
      writeFails_error (by decide)⟩⟩

theorem witness_StartGivesTheResetMachine :
    (List.replicate 256 (0x76 : Byte)).length = 256 ∧ (List.replicate 8192 (0xA0 : Byte)).length = 8192 ∧
      (List.replicate 256 (0x76 : Byte))[0]? = some 0x76 ∧ (List.replicate 256 (0x76 : Byte))[255]? = some 0x76 ∧
      (List.replicate 8192 (0xA0 : Byte))[0]? = some 0xA0 ∧ (List.replicate 8192 (0xA0 : Byte))[8191]? = some 0xA0 ∧
      (List.replicate 255 (0x76 : Byte)).length ≠ 256 ∧ (List.replicate 257 (0x76 : Byte)).length ≠ 256 := by
  simp only [List.length_replicate, List.getElem?_replicate]
  decide

theorem witness_StepKeepsTheInvariant : State.Sound working ∧ ∃ t, step working = .next t := by
  refine ⟨?_, steps_next (by decide)⟩
  constructor <;> decide

theorem witness_FaultedMachineNeverChanges :
    { working with fault := some (.accessError 0xFFFC .write) }.fault = some (.accessError 0xFFFC .write) := rfl

theorem witness_HaltedMachineNeverChanges :
    { working with halted := true }.halted = true ∧ { working with halted := true }.fault = none ∧
      { working with halted := true }.counter = 0 := ⟨rfl, rfl, rfl⟩

theorem witness_TickHasItsThreeCases :
    { working with fault := some (.accessError 0xFFFC .write) }.fault = some (.accessError 0xFFFC .write) ∧
      ({ working with counter := 1 }.fault = none ∧ 0 < { working with counter := 1 }.counter) ∧
      (working.fault = none ∧ working.counter = 0) ∧ { working with halted := true }.halted = true := by decide

theorem witness_HostWritesLandBetweenTicks :
    working.fault = none ∧ working.halted = false ∧ working.hostWrites = [] ∧
      { working with hostWrites := [[], [⟨0, 0x76⟩]] }.hostWrites = [] :: [[⟨0, 0x76⟩]] ∧
      { working with hostWrites := [[⟨0x1FFF, 0x76⟩]] }.hostWrites = (⟨0x1FFF, 0x76⟩ :: []) :: [] := by decide

/-- The CALL at the end of the boot image. -/
theorem witness_StepRunsTheDecodedInstruction :
    working = hostMove working ∧ working.fault = none ∧ working.halted = false ∧ working.counter = 0 ∧
      decode [0xCD, 0x34, 0x12] = .ok (.callA16 0x1234, []) ∧ WellFormed working.params (.callA16 0x1234) = true ∧
      ∀ k b, ([0xCD, 0x34, 0x12] : List Byte)[k]? = some b → working.read8 (working.pc + BitVec.ofNat 16 k) = .ok b := by
  refine ⟨rfl, rfl, rfl, rfl, rfl, by decide, ?_⟩
  rintro (_ | _ | _ | k) b h <;> simp at h <;> subst h <;> exact reads_ok (by decide)

theorem witness_UnmappedOpcodesRaiseDecodeErrors :
    (∃ s : State, s.halted = false ∧ s.read8 s.pc = .ok 0xD3 ∧ (0xD3 : Byte) ≠ 0xCB ∧ s.params.mapsPrimary 0xD3 = false) ∧
      (∃ s : State, s.halted = false ∧ s.read8 s.pc = .ok 0xCB ∧ s.read8 (s.pc + 1) = .ok 0xFF ∧
        s.params.mapsExtended 0xFF = false) ∧
      (0x00 : Byte) ≠ 0xCB :=
  ⟨⟨{ State.reset with boot := [(0, 0xD3)] }, rfl, reads_ok (by decide), by decide, by decide⟩,
    ⟨{ State.reset with boot := [(0, 0xCB), (1, 0xFF)], params := { Params.default with leftOutCB := [0xFF] } },
      rfl, reads_ok (by decide), reads_ok (by decide), by decide⟩, by decide⟩

/-- The premises of `FetchedAs`: the engine can read just the first `j` bytes of the instruction. -/
def FetchCutShort (s : State) (i : Instr) (j : Nat) : Prop :=
  s.halted = false ∧ WellFormed s.params i = true ∧ j < (encode i).length ∧
    (∀ k b, k < j → (encode i)[k]? = some b → s.read8 (s.pc + BitVec.ofNat 16 k) = .ok b) ∧
    ∀ b, s.read8 (s.pc + BitVec.ofNat 16 j) ≠ .ok b

/-- They are met for every instruction of the build where not even its first byte can be read. -/
theorem fetch_cut_short {i : Instr} (h : WellFormed Params.default i = true) : FetchCutShort astray i 0 := by
  refine ⟨rfl, h, ?_, by intro k b hk; omega, never_ok (readFails_error (a := 0x0100 + BitVec.ofNat 16 0) (by decide))⟩
  obtain ⟨op, rest, he, _⟩ := WellFormed.bytes h
  rw [he]
  simp

/-- For every instruction, and for the last byte of a CALL at the end of video memory. -/
theorem witness_FetchErrorLeavesPcAtTheUnreadByte :
    (∀ i, WellFormed Params.default i = true → FetchCutShort astray i 0) ∧
      FetchCutShort { working with pc := 0x9FFE, vram := [(0x1FFE, 0xCD), (0x1FFF, 0x34)] } (.callA16 0x1234) 2 := by
  refine ⟨fun i => fetch_cut_short, rfl, by decide, by decide, ?_, never_ok (readFails_error (a := 0x9FFE + BitVec.ofNat 16 2)
    (by decide))⟩
  intro k b hk h
  rw [show encode (.callA16 0x1234) = [0xCD, 0x34, 0x12] from rfl] at h
  obtain _ | _ | k := k
  · simp only [List.getElem?_cons_zero, Option.some.injEq] at h
    subst h
    exact reads_ok (by decide)
  · simp only [List.getElem?_cons_succ, List.getElem?_cons_zero, Option.some.injEq] at h
    subst h
    exact reads_ok (by decide)
  · omega

/-- At offsets 0 and 0x1DFF, which have an echo, and 0x1E00 and 0x1FFF, which have none. -/
theorem witness_FetchSeesTheLastWrite :
    Memory.wf vramSize working.vram = true ∧ (0 < 0x1E00 ∧ 0x1DFF < 0x1E00 ∧ ¬0x1E00 < 0x1E00 ∧ 0x1FFF < 0x2000) ∧
      [0, 0x1DFF, 0x1E00, 0x1FFF].all (fun k => writes working (BitVec.ofNat 16 (0x8000 + k)) 0x76
        { working with vram := Memory.writeCell working.vram k 0x76 }) = true := by decide

theorem witness_ConstructionDataNeverChanges : (∃ t, exec (.callA16 0x1234) working = .next t) ∧ ∃ t, step working = .next t :=
  ⟨Machine.exec_next _ _, steps_next (by decide)⟩

/-- A store to the echo of offset 0x1DFF leaves offset 0x1FFF as it was. -/
theorem witness_MemoryChangesOnlyAtStoredBytes :
    (∃ t, exec (.ldIndHLD8 0x5A) working = .next t) ∧
      ∀ x, StoresAt working (.ldIndHLD8 0x5A) x → route 0x9FFF ≠ route x := by
  refine ⟨Machine.exec_next _ _, ?_⟩
  have key : ∀ i x, StoresAt working i x → i = .ldIndHLD8 0x5A → x = 0xFDFF := by
    intro i x h hi
    cases h
    case ldIndReg r => cases r <;> cases hi
    case rotInd op => cases op <;> cases hi
    case resInd b => fin_cases b <;> cases hi
    case setInd b => fin_cases b <;> cases hi
    case push qq _ => cases qq <;> cases hi
    case callCond cc w _ _ => cases cc <;> cases hi
    case rst k _ => fin_cases k <;> cases hi
    all_goals first | rfl | cases hi
  intro x h
  rw [key _ x h rfl]
  decide

/-- A CALL writes no byte register. -/
theorem witness_RegistersChangeOnlyWhereNamed :
    (∃ t, exec (.callA16 0x1234) working = .next t) ∧ ¬WritesReg working (.callA16 0x1234) .b := by
  refine ⟨Machine.exec_next _ _, ?_⟩
  have key : ∀ i r, WritesReg working i r → i ≠ .callA16 0x1234 := by
    intro i r h hi
    cases h
    case ldRegReg q => cases r <;> cases q <;> cases hi
    case ldRegInd => cases r <;> cases hi
    case ldRegImm n => cases r <;> cases hi
    case ldPairImm rr w _ => cases rr <;> cases hi
    case popPair qq _ => cases qq <;> cases hi
    case aluReg op q _ => cases op <;> cases q <;> cases hi
    case aluInd op _ => cases op <;> cases hi
    case aluImm op n _ => cases op <;> cases hi
    case incReg => cases r <;> cases hi
    case decReg => cases r <;> cases hi
    case incPair rr _ => cases rr <;> cases hi
    case decPair rr _ => cases rr <;> cases hi
    case addHLPair rr _ => cases rr <;> cases hi
    case rotReg op => cases op <;> cases r <;> cases hi
    case bitReg b o _ => fin_cases b <;> cases o <;> cases hi
    case bitInd b _ => fin_cases b <;> cases hi
    case resReg b => fin_cases b <;> cases r <;> cases hi
    case setReg b => fin_cases b <;> cases r <;> cases hi
    all_goals cases hi
  exact fun h => key _ _ h rfl

/-- `Z` is set at `working`: a CALL NZ is not taken and writes neither `SP` nor, below, `PC`. -/
theorem witness_StackPointerChangesOnlyWhereNamed :
    (∃ t, exec (.callNZA16 0x1234) working = .next t) ∧ ¬WritesSP working (.callNZA16 0x1234) := by
  refine ⟨Machine.exec_next _ _, ?_⟩
  have key : ∀ i, WritesSP working i → i ≠ .callNZA16 0x1234 := by
    intro i h hi
    cases h
    case push qq => cases qq <;> cases hi
    case pop qq => cases qq <;> cases hi
    case callCond cc w hc => cases cc <;> first | (revert hc; decide) | cases hi
    case rst k => fin_cases k <;> cases hi
    case retCond cc _ => cases cc <;> cases hi
    all_goals cases hi
  exact fun h => key _ h rfl

theorem witness_FlagByteChangesOnlyWhereNamed :
    (∃ t, exec (.callA16 0x1234) working = .next t) ∧ ¬WritesFlags (.callA16 0x1234) := by
  refine ⟨Machine.exec_next _ _, ?_⟩
  have key : ∀ i, WritesFlags i → i ≠ .callA16 0x1234 := by
    intro i h hi
    cases h
    case aluReg op r => cases op <;> cases r <;> cases hi
    case aluInd op => cases op <;> cases hi
    case aluImm op n => cases op <;> cases hi
    case incReg r => cases r <;> cases hi
    case decReg r => cases r <;> cases hi
    case addHLPair rr => cases rr <;> cases hi
    case rotReg op r => cases op <;> cases r <;> cases hi
    case rotInd op => cases op <;> cases hi
    case bitReg b r => fin_cases b <;> cases r <;> cases hi
    case bitInd b => fin_cases b <;> cases hi
    all_goals cases hi
  exact fun h => key _ h rfl

theorem witness_ProgramCounterChangesOnlyInTransfers :
    (∃ t, exec (.callNZA16 0x1234) working = .next t) ∧ ¬Transfers working (.callNZA16 0x1234) := by
  refine ⟨Machine.exec_next _ _, ?_⟩
  have key : ∀ i, Transfers working i → i ≠ .callNZA16 0x1234 := by
    intro i h hi
    cases h
    case jrCond cc e _ => cases cc <;> cases hi
    case jpCond cc w _ => cases cc <;> cases hi
    case callCond cc w hc => cases cc <;> first | (revert hc; decide) | cases hi
    case retCond cc _ => cases cc <;> cases hi
    case rst k => fin_cases k <;> cases hi
    all_goals cases hi
  exact fun h => key _ h rfl

theorem witness_HaltedAndFaultAreSticky :
    (∃ t, exec .halt working = .next t) ∧ (∃ t, step { working with halted := true } = .next t) ∧
      ∃ t, step { working with fault := some (.accessError 0xFFFC .write) } = .next t :=
  ⟨Machine.exec_next _ _, steps_next (by decide), steps_next (by decide)⟩

/-! #### Statements about instructions

Where a statement's only premises are those of the fetch (`FetchedAs`), `fetch_cut_short` meets them for each of its
instructions; the witnesses name one. -/

theorem witness_RegisterAndImmediateLoads : FetchCutShort astray (.ldRegReg .b .c) 0 ∧ FetchCutShort astray (.ldBCD16 0x1234) 0 :=
  ⟨fetch_cut_short (by decide), fetch_cut_short (by decide)⟩

/-- Each address that a load or a store uses, where the access is accepted and where it is not. -/
theorem witness_LoadsFromMemory :
    FetchCutShort astray .ldAIndHLInc 0 ∧
      ((∃ v, working.read8 working.hl = .ok v) ∧ (∃ v, working.read8 working.bc = .ok v) ∧
        (∃ v, working.read8 working.de = .ok v) ∧ (∃ v, working.read8 0xFDFF = .ok v) ∧
        (∃ v, working.read8 (0xFF00 + (0x26 : Byte).setWidth 16) = .ok v) ∧
        ∃ v, working.read8 (0xFF00 + working.c.setWidth 16) = .ok v) ∧
      ((∀ v, astray.read8 astray.hl ≠ .ok v) ∧ (∀ v, astray.read8 astray.bc ≠ .ok v) ∧
        (∀ v, astray.read8 astray.de ≠ .ok v) ∧ (∀ v, astray.read8 0xFE00 ≠ .ok v) ∧
        (∀ v, astray.read8 (0xFF00 + (0x27 : Byte).setWidth 16) ≠ .ok v) ∧
        ∀ v, astray.read8 (0xFF00 + astray.c.setWidth 16) ≠ .ok v) := by
  refine ⟨fetch_cut_short (by decide), ⟨⟨0x42, ?_⟩, ⟨0x00, ?_⟩, ⟨0x80, ?_⟩, ⟨0x42, ?_⟩, ⟨0x00, ?_⟩, ⟨0x00, ?_⟩⟩, ?_, ?_, ?_, ?_, ?_, ?_⟩
  all_goals first | exact reads_ok (by decide) | exact never_ok (readFails_error (by decide))

theorem witness_StoresToMemory :
    FetchCutShort astray .ldIndHLIncA 0 ∧
      ((∃ t, working.write8 working.hl working.a = .ok t) ∧ (∃ t, working.write8 working.bc working.a = .ok t) ∧
        (∃ t, working.write8 working.de working.a = .ok t) ∧
        (∃ t, working.write8 (0xFF00 + (0x26 : Byte).setWidth 16) working.a = .ok t) ∧
        ∃ t, working.write8 (0xFF00 + working.c.setWidth 16) working.a = .ok t) ∧
      ((∀ t, astray.write8 astray.hl astray.a ≠ .ok t) ∧ (∀ t, astray.write8 astray.bc astray.a ≠ .ok t) ∧
        (∀ t, astray.write8 astray.de astray.a ≠ .ok t) ∧
        (∀ t, astray.write8 (0xFF00 + (0x27 : Byte).setWidth 16) astray.a ≠ .ok t) ∧
        ∀ t, astray.write8 (0xFF00 + astray.c.setWidth 16) astray.a ≠ .ok t) := by
  refine ⟨fetch_cut_short (by decide), ⟨⟨{ working with vram := Memory.writeCell working.vram 0x1DFF 0x99 }, ?_⟩,
    ⟨{ working with vram := Memory.writeCell working.vram 0x0026 0x99 }, ?_⟩,
    ⟨{ working with vram := Memory.writeCell working.vram 0x1FFF 0x99 }, ?_⟩, ⟨working, ?_⟩, ⟨working, ?_⟩⟩, ?_, ?_, ?_, ?_, ?_⟩
  all_goals first | exact writes_ok (by decide) | exact never_ok (writeFails_error (by decide))

/-- `LD (a16),SP` at the last two bytes of video memory, at its last byte alone, and outside it. -/
theorem witness_StoreOfTheStackPointer :
    FetchCutShort astray (.ldIndA16SP ((0x9F : Byte) ++ (0xFE : Byte))) 0 ∧
      (∃ m t, working.write8 ((0x9F : Byte) ++ (0xFE : Byte)) (working.sp.extractLsb' 0 8) = .ok m ∧
        m.write8 (((0x9F : Byte) ++ (0xFE : Byte)) + 1) (working.sp.extractLsb' 8 8) = .ok t) ∧
      (∀ m, working.write8 ((0xA0 : Byte) ++ (0x00 : Byte)) (working.sp.extractLsb' 0 8) ≠ .ok m) ∧
      ∃ m, working.write8 ((0x9F : Byte) ++ (0xFF : Byte)) (working.sp.extractLsb' 0 8) = .ok m ∧
        ∀ t, m.write8 (((0x9F : Byte) ++ (0xFF : Byte)) + 1) (working.sp.extractLsb' 8 8) ≠ .ok t := by
  refine ⟨fetch_cut_short (by decide),
    ⟨{ working with vram := Memory.writeCell working.vram 0x1FFE 0xFE },
      { working with vram := Memory.writeCell (Memory.writeCell working.vram 0x1FFE 0xFE) 0x1FFF 0x9F }, ?_, ?_⟩, ?_,
    { working with vram := Memory.writeCell working.vram 0x1FFF 0xFE }, ?_, ?_⟩
  all_goals first | exact writes_ok (by decide) | exact never_ok (writeFails_error (by decide))

theorem witness_StackPointerPlusDisplacement :
    FetchCutShort astray (.ldHLSPE8 0x80) 0 ∧ FetchCutShort astray (.addSPE8 0x7F) 0 :=
  ⟨fetch_cut_short (by decide), fetch_cut_short (by decide)⟩

/-- The premises of `Pushes`: a push of the word completes at the first state, fails on its second byte at the second. -/
def PushesBothWays (s t : State) (v w : Word) : Prop :=
  (∃ u, (s.setSP (s.sp - 2)).write16 (s.sp - 2) v = .ok u) ∧ ∃ e u, (t.setSP (t.sp - 2)).write16 (t.sp - 2) w = .error (e, u)

theorem write16_ok_of {s : State} {a v : Word} (h : (match s.write16 a v with
    | .ok _ => true
    | .error _ => false) = true) : ∃ t, s.write16 a v = .ok t := by
  split at h <;> simp_all

theorem write16_error_of {s : State} {a v : Word} (h : (match s.write16 a v with
    | .ok _ => false
    | .error _ => true) = true) : ∃ e t, s.write16 a v = .error (e, t) := by
  split at h
  · simp at h
  · exact ⟨_, _, by assumption⟩

theorem read16_ok_of {s : State} {a : Word} (h : (match s.read16 a with
    | .ok _ => true
    | .error _ => false) = true) : ∃ v, s.read16 a = .ok v := by
  split at h <;> simp_all

theorem read16_error_of {s : State} {a : Word} (h : (match s.read16 a with
    | .ok _ => false
    | .error _ => true) = true) : ∃ e, s.read16 a = .error e := by
  split at h <;> simp_all

theorem witness_PushAndPop :
    FetchCutShort astray .pushAF 0 ∧ FetchCutShort astray .popAF 0 ∧
      PushesBothWays working { working with sp := 0xA001 } working.af working.af ∧
      (∃ v, working.read16 working.sp = .ok v) ∧ ∃ e, { working with sp := 0x9FFF }.read16 0x9FFF = .error e :=
  ⟨fetch_cut_short (by decide), fetch_cut_short (by decide),
    ⟨write16_ok_of (by decide), write16_error_of (by decide)⟩, read16_ok_of (by decide), read16_error_of (by decide)⟩

/-- The ends of the range of `SP`. -/
theorem witness_PopGivesBackWhatWasPushed :
    (0x8002 ≤ { working with sp := 0x8002 }.sp.toNat ∧ { working with sp := 0x8002 }.sp.toNat ≤ 0xA000) ∧
      (0x8002 ≤ { working with sp := 0xA000 }.sp.toNat ∧ { working with sp := 0xA000 }.sp.toNat ≤ 0xA000) ∧
      Memory.wf vramSize working.vram = true := by decide

/-- An operation with a register, with the byte at `HL` and with an immediate. -/
theorem witness_AddAndAddWithCarry :
    FetchCutShort astray (.aluReg .adc .b) 0 ∧ FetchCutShort astray (.aluImm .add 0x34) 0 ∧
      (∃ v, working.read8 working.hl = .ok v) ∧ ∀ v, astray.read8 astray.hl ≠ .ok v :=
  ⟨fetch_cut_short (by decide), fetch_cut_short (by decide), ⟨0x42, reads_ok (by decide)⟩, never_ok (readFails_error (by decide))⟩

theorem witness_SubtractAndCompare :
    FetchCutShort astray (.aluReg .cp .a) 0 ∧ FetchCutShort astray (.aluImm .sbc 0x34) 0 ∧
      (∃ v, working.read8 working.hl = .ok v) ∧ ∀ v, astray.read8 astray.hl ≠ .ok v :=
  ⟨fetch_cut_short (by decide), fetch_cut_short (by decide), ⟨0x42, reads_ok (by decide)⟩, never_ok (readFails_error (by decide))⟩

theorem witness_BitwiseAccumulatorOperations :
    FetchCutShort astray (.aluReg .xor .a) 0 ∧ FetchCutShort astray (.aluImm .or 0x34) 0 ∧
      (∃ v, working.read8 working.hl = .ok v) ∧ ∀ v, astray.read8 astray.hl ≠ .ok v :=
  ⟨fetch_cut_short (by decide), fetch_cut_short (by decide), ⟨0x42, reads_ok (by decide)⟩, never_ok (readFails_error (by decide))⟩

/-- The premises of `ModifiesAtHL` at a byte that can be read and written, at one that can only be read, and at one that
cannot be read. -/
def ModifyPremises (result : Byte → Byte) : Prop :=
  (∃ v t, working.read8 working.hl = .ok v ∧ working.write8 working.hl (result v) = .ok t) ∧
    (∃ v, { working with hl := 0x00FF }.read8 0x00FF = .ok v ∧
      ∀ t, { working with hl := 0x00FF }.write8 0x00FF (result v) ≠ .ok t) ∧
    ∀ v, astray.read8 astray.hl ≠ .ok v

theorem modify_premises (result : Byte → Byte) : ModifyPremises result := by
  refine ⟨⟨0x42, { working with vram := Memory.writeCell working.vram 0x1DFF (result 0x42) }, reads_ok (by decide), ?_⟩,
    ⟨0x12, reads_ok (by decide), never_ok (e := .accessError 0x00FF .write) ?_⟩, never_ok (readFails_error (by decide))⟩
  · have h : route working.hl = .videoMemory 0x1DFF := by decide
    unfold State.write8
    rw [h]
  · have h : route 0x00FF = .bootImage 0x00FF := by decide
    unfold State.write8
    rw [h]

theorem witness_IncrementAndDecrement :
    FetchCutShort astray .incB 0 ∧ FetchCutShort astray .decIndHL 0 ∧ ModifyPremises (fun v => v + 1) ∧
      ModifyPremises (fun v => v - 1) :=
  ⟨fetch_cut_short (by decide), fetch_cut_short (by decide), modify_premises _, modify_premises _⟩

theorem witness_AdjustAndFlagOperations : FetchCutShort astray .daa 0 ∧ FetchCutShort astray .ccf 0 :=
  ⟨fetch_cut_short (by decide), fetch_cut_short (by decide)⟩

/-- `A` holds the packed 99 at `working`; the other operand takes its least and greatest value. -/
theorem witness_DecimalAdjustGivesDecimalResults : 99 < 100 ∧ 0 < 100 ∧ working.a = packedBcd 99 := by decide

theorem witness_SlotArithmetic : FetchCutShort astray (.incPair .sp) 0 ∧ FetchCutShort astray (.addHLPair .hl) 0 :=
  ⟨fetch_cut_short (by decide), fetch_cut_short (by decide)⟩

theorem witness_AccumulatorRotates : FetchCutShort astray .rlca 0 ∧ FetchCutShort astray .rra 0 :=
  ⟨fetch_cut_short (by decide), fetch_cut_short (by decide)⟩

theorem witness_ExtendedRotatesAndShifts :
    FetchCutShort astray (.rotReg .swap .a) 0 ∧ ModifyPremises (fun v => v >>> 1) :=
  ⟨fetch_cut_short (by decide), modify_premises _⟩

/-- The effect the statement is about exists, and the byte at `HL` can be read at one state and not at another. -/
theorem witness_BitTests :
    FetchCutShort astray (.bitReg 7 .h) 0 ∧
      (∃ effect : Byte → State → State, ∀ v s, effect v s =
        if s.params.bitWritesA then (s.setFlags ⟨!v.getLsbD 7, false, true, s.flagC⟩).setA (v &&& ((1 : Byte) <<< 7))
        else s.setFlags ⟨!v.getLsbD 7, false, true, s.flagC⟩) ∧
      (∃ v, working.read8 working.hl = .ok v) ∧ ∀ v, astray.read8 astray.hl ≠ .ok v :=
  ⟨fetch_cut_short (by decide), ⟨_, fun _ _ => rfl⟩, ⟨0x42, reads_ok (by decide)⟩, never_ok (readFails_error (by decide))⟩

theorem witness_BitResetAndSet : FetchCutShort astray (.setReg 0 .b) 0 ∧ ModifyPremises (fun v => v ||| ((1 : Byte) <<< 7)) :=
  ⟨fetch_cut_short (by decide), modify_premises _⟩

theorem witness_Jumps : FetchCutShort astray (.jrNZE8 0x80) 0 ∧ FetchCutShort astray (.jpCA16 0xFFFF) 0 :=
  ⟨fetch_cut_short (by decide), fetch_cut_short (by decide)⟩

/-- `Z` and `Cf` are set at `working`. -/
theorem witness_CallsAndRestarts :
    FetchCutShort astray (.callNZA16 0x1234) 0 ∧ working.cond .z = true ∧ working.cond .nz = false ∧
      PushesBothWays working { working with sp := 0xA001 } working.pc working.pc :=
  ⟨fetch_cut_short (by decide), by decide, by decide, write16_ok_of (by decide), write16_error_of (by decide)⟩

theorem witness_Returns :
    FetchCutShort astray .reti 0 ∧ working.cond .c = true ∧ working.cond .nc = false ∧
      (∃ v, working.read16 working.sp = .ok v) ∧ ∃ e, { working with sp := 0x9FFF }.read16 0x9FFF = .error e :=
  ⟨fetch_cut_short (by decide), by decide, by decide, read16_ok_of (by decide), read16_error_of (by decide)⟩

theorem witness_SystemInstructions : FetchCutShort astray (.stop 0x42) 0 ∧ { working with halted := true }.halted = true :=
  ⟨fetch_cut_short (by decide), rfl⟩

theorem witness_UnmappedRowsRaiseTheirDecodeError :
    (.unmappedFD, 0xFD) ∈ ([(.unmappedD3, 0xD3), (.unmappedFD, 0xFD)] : List (Instr × Byte)) ∧
      ∃ s : State, s.halted = false ∧ s.read8 s.pc = .ok 0xFD ∧ s.params.leavesOutPrimary 0xFD = false :=
  ⟨by simp, { State.reset with boot := [(0, 0xFD)] }, rfl, reads_ok (by decide), by decide⟩

theorem witness_CountdownChangesNothingElse :
    { working with counter := 5 }.fault = none ∧ { working with counter := 5 }.hostWrites = [] ∧
      5 ≤ { working with counter := 5 }.counter := by decide

theorem witness_ExecutionIgnoresTheCounter : ∃ t, exec (.callA16 0x1234) { working with counter := 5 } = .next t :=
  Machine.exec_next _ _

/-- The dearest instruction, a CALL, completes. -/
theorem witness_CostsAreOneToSix :
    working.fault = none ∧ ∃ t, exec (.callA16 0x1234) working = .next t ∧ t.fault = none := by
  obtain ⟨t, h⟩ := write16_ok_of (s := working.setSP (working.sp - 2)) (a := working.sp - 2) (v := working.pc) (by decide)
  refine ⟨rfl, { t.setPC 0x1234 with counter := 5 }, ?_, ?_⟩
  · rw [exec_callA16, callOp, State.push, h]
    rfl
  · rw [State.write16_ok_eq h]
    rfl

theorem witness_AdvanceIsAdditive :
    ∃ sys : System, sys.driver.wf = true ∧ sys.driver = Driver.start ∧ sys.state.params.baseClockHz = 4194304 ∧ 6 ≤ 6 :=
  ⟨⟨working, Driver.start, none, false⟩, by decide, rfl, rfl, by decide⟩

/-- An image for every clause: cut short, and with each of the header codes. -/
theorem witness_CartridgeChecksInOrder :
    (List.replicate 0x014F (0 : Byte)).length < 0x0150 ∧
      checkCartridge (List.replicate 0x014F 0) = .error .cartridgeSizeMismatch ∧
      (∀ controller rom ram : Byte, 0x0150 ≤ (cartridge 32768 controller rom ram).length ∧
        (cartridge 32768 controller rom ram)[0x0147]? = some controller ∧
        (cartridge 32768 controller rom ram)[0x0148]? = some rom ∧ (cartridge 32768 controller rom ram)[0x0149]? = some ram) ∧
      romSizeOfCode 0x09 = none ∧ romSizeOfCode 0x01 = some 65536 ∧ romSizeOfCode 0x00 = some 32768 ∧
      ramSizeOfCode 0x06 = none ∧ ramSizeOfCode 0x05 = some 65536 ∧ (0x01 : Byte) ≠ 0x00 := by
  refine ⟨by simp [-List.reduceReplicate], ?_, fun controller rom ram => ?_, by decide, by decide, by decide, by decide,
    by decide, by decide⟩
  · unfold checkCartridge
    rw [List.length_replicate, if_pos (by decide)]
  · obtain ⟨hl, h⟩ := cartridge_header (n := 32768) (by decide) controller rom ram
    exact ⟨by omega, h⟩

/-- A machine whose first instruction is the NOP of the zero image. -/
def fresh : System := ⟨State.reset, Driver.start, none, false⟩

/-- Before and after the first tick, and calls of `Advance` that drive no cycle and one. -/
theorem witness_PresetsEndWithTheFirstTick :
    fresh.ticked = false ∧ { fresh with ticked := true }.ticked = true ∧ (fresh.advance 0).2 = .next fresh ∧
      (fresh.advance 1000).2 = .next { fresh with
        state := { State.reset with pc := 0x0001 }, driver := ⟨194304000, 0⟩, ticked := true } :=
  ⟨rfl, rfl, rfl, rfl⟩

end Sys2Proof.Tests
end

/-! SUPPORT and SETTLED OBLIGATIONS. The registers, the flags, the step's own cases and the construction of a machine
(spec/10_state.md). -/

namespace Sys2Proof.Machine

/-! ### The word view of a slot, from its byte views (rule R21, rule R22) -/

theorem State.bc_eq_append (s : State) : s.bc = s.b ++ s.c := (joinBytes_hiByte_loByte s.bc).symm
theorem State.de_eq_append (s : State) : s.de = s.d ++ s.e := (joinBytes_hiByte_loByte s.de).symm
theorem State.hl_eq_append (s : State) : s.hl = s.h ++ s.l := (joinBytes_hiByte_loByte s.hl).symm
theorem State.af_eq_append (s : State) : s.af = s.a ++ s.f := (joinBytes_hiByte_loByte s.af).symm

/-- Settles O5: a slot is one word, the byte views cut it (`joinBytes_hiByte_loByte`), and a write of one byte joins it with
the other byte as it stood; only a write of `AF` or `F` masks (`State.setAF_f`, `State.setF_af`). -/
theorem wordAndByteViewsAreOneValue : Obligations.WordAndByteViewsAreOneValue := by
  intro s v b
  refine ⟨⟨s.bc_eq_append, s.de_eq_append, s.hl_eq_append, s.af_eq_append⟩, ?bc, ?de, ?hl, ?af⟩
  case bc => exact ⟨s.setBC_b v, s.setBC_c v, s.setB_bc b, s.setC_bc b⟩
  case de => exact ⟨s.setDE_d v, s.setDE_e v, s.setD_de b, s.setE_de b⟩
  case hl => exact ⟨s.setHL_h v, s.setHL_l v, s.setH_hl b, s.setL_hl b⟩
  case af => exact ⟨s.setAF_a v, s.setAF_f v, s.setA_af b, s.setF_af b⟩

/-! ### The conditions (rule R230) -/

@[simp] theorem State.cond_nz (s : State) : s.cond .nz = !s.flagZ := rfl
@[simp] theorem State.cond_z (s : State) : s.cond .z = s.flagZ := rfl
@[simp] theorem State.cond_nc (s : State) : s.cond .nc = !s.flagC := rfl
@[simp] theorem State.cond_c (s : State) : s.cond .c = s.flagC := rfl

/-- Settles O6: the flags are read at their bits by definition, the bits of `Flags.toByte` are the flags written
(`State.setFlags_flagZ` and its like), and a condition is a flag or its negation. -/
theorem flagsAndConditionsAreBitsOfF : Obligations.FlagsAndConditionsAreBitsOfF := by
  intro s fl
  have hlow : (s.setFlags fl).f &&& 0x0F = 0 := by rw [State.setFlags_f, Flags.toByte_low]
  refine ⟨rfl, rfl, rfl, rfl, ?written, ?nz, ?z, ?nc, ?c⟩
  case written =>
    exact ⟨s.setFlags_flagZ fl, s.setFlags_flagN fl, s.setFlags_flagH fl, s.setFlags_flagC fl, hlow, s.setFlags_a fl⟩
  case nz => rw [State.cond_nz, Bool.not_eq_true']
  case z => rw [State.cond_z]
  case nc => rw [State.cond_nc, Bool.not_eq_true']
  case c => rw [State.cond_c]

/-! ### What a step can do, said once (rule R84, rule R289, rule R303) -/

/-- The state at which a step's tick runs: past the host's move where that still counts (rule R289). -/
def State.afterHost (s : State) : State := if s.hostMayWrite then hostMove s else s

theorem step_eq_tick (s : State) : step s = tick s.afterHost := by
  unfold step hostThenTick State.afterHost
  split <;> rfl

/-- The host's move changes video memory and the schedule alone. -/
theorem State.afterHost_eq (s : State) :
    s.afterHost = { s with vram := s.afterHost.vram, hostWrites := s.afterHost.hostWrites } := by
  unfold State.afterHost hostMove
  split
  · split <;> rfl
  · rfl

/-- The three cases of a tick: nothing on a faulted machine, a countdown, or an instruction. -/
theorem tick_cases {s t : State} (h : tick s = .next t) :
    (s.fault.isSome = true ∧ t = s) ∨
      (s.fault = none ∧ 0 < s.counter ∧ t = { s with counter := s.counter - 1 }) ∨
      (s.fault = none ∧ s.counter = 0 ∧ executeInstruction s = .next t) := by
  unfold tick at h
  split at h
  · next e he =>
    cases h
    exact .inl ⟨by rw [he]; rfl, rfl⟩
  · next hf =>
    split at h
    · next hc =>
      cases h
      exact .inr (.inl ⟨hf, hc, rfl⟩)
    · next hc => exact .inr (.inr ⟨hf, Nat.eq_zero_of_not_pos hc, h⟩)

/-- The three cases of `ExecuteInstruction()`: halted, an error in the fetch, or the instruction fetched. -/
theorem executeInstruction_cases {s t : State} (h : executeInstruction s = .next t) :
    (s.halted = true ∧ t = { s with counter := 0 }) ∨
      (s.halted = false ∧ ∃ pc e, fetchInstr s = .raised e (s.setPC pc) ∧ t = { s.setPC pc with fault := some e }) ∨
      (s.halted = false ∧ ∃ pc i, fetchInstr s = .got i (s.setPC pc) ∧ exec i (s.setPC pc) = .next t) := by
  obtain ⟨hgot, hraised⟩ := fetchInstr_pc s
  unfold executeInstruction at h
  split at h
  · next hh =>
    cases h
    exact .inl ⟨hh, rfl⟩
  · next hh =>
    have hh' : s.halted = false := Bool.eq_false_of_not_eq_true hh
    split at h
    · next e u hu =>
      obtain ⟨pc, rfl⟩ := hraised e u hu
      cases h
      exact .inr (.inl ⟨hh', pc, e, hu, rfl⟩)
    · next i u hu =>
      obtain ⟨pc, rfl⟩ := hgot i u hu
      exact .inr (.inr ⟨hh', pc, i, hu, h⟩)

/-- The three ends of an instruction: HALT or STOP, completed after quiet writes, or raised after quiet writes. -/
theorem exec_cases {i : Instr} {s t : State} (h : exec i s = .next t) :
    (Instr.halts i = true ∧ t = { s with halted := true, counter := 0 }) ∨
      (Instr.halts i = false ∧ ∃ u cost, Quiet s u ∧ 1 ≤ cost ∧ cost ≤ 6 ∧ t = { u with counter := cost - 1 }) ∨
      (Instr.halts i = false ∧ ∃ u e, Quiet s u ∧ t = { u with fault := some e }) := by
  cases hi : Instr.halts i with
  | true =>
    rw [exec_halts hi] at h
    cases h
    exact .inl ⟨rfl, rfl⟩
  | false =>
    have hends := exec_ends i s hi
    rw [h] at hends
    cases hends with
    | completed hq h₁ h₆ => exact .inr (.inl ⟨rfl, _, _, hq, h₁, h₆, rfl⟩)
    | raised hq => exact .inr (.inr ⟨rfl, _, _, hq, rfl⟩)

/-! ### The low nibble of `F` (rule R25) -/

theorem State.afterHost_f (s : State) : s.afterHost.f = s.f := by
  rw [s.afterHost_eq]
  rfl

theorem exec_keeps_flagsLow {i : Instr} {s t : State} (h : exec i s = .next t) (hs : s.f &&& 0x0F = 0) :
    t.f &&& 0x0F = 0 := by
  obtain ⟨_, rfl⟩ | ⟨_, u, cost, hq, _, _, rfl⟩ | ⟨_, u, e, hq, rfl⟩ := exec_cases h
  · exact hs
  · exact hq.flagsLow hs
  · exact hq.flagsLow hs

theorem executeInstruction_keeps_flagsLow {s t : State} (h : executeInstruction s = .next t) (hs : s.f &&& 0x0F = 0) :
    t.f &&& 0x0F = 0 := by
  obtain ⟨_, rfl⟩ | ⟨_, pc, e, _, rfl⟩ | ⟨_, pc, i, _, hexec⟩ := executeInstruction_cases h
  · exact hs
  · exact hs
  · exact exec_keeps_flagsLow hexec hs

theorem tick_keeps_flagsLow {s t : State} (h : tick s = .next t) (hs : s.f &&& 0x0F = 0) : t.f &&& 0x0F = 0 := by
  obtain ⟨_, rfl⟩ | ⟨_, _, rfl⟩ | ⟨_, _, hexec⟩ := tick_cases h
  · exact hs
  · exact hs
  · exact executeInstruction_keeps_flagsLow hexec hs

theorem step_keeps_flagsLow {s t : State} (h : step s = .next t) (hs : s.f &&& 0x0F = 0) : t.f &&& 0x0F = 0 := by
  rw [step_eq_tick] at h
  exact tick_keeps_flagsLow h (s.afterHost_f ▸ hs)

/-- Settles O7: both writes mask, and a step keeps the nibble 0 because every instruction's writes are quiet
(`exec_ends`). -/
theorem flagByteLowNibbleStaysZero : Obligations.FlagByteLowNibbleStaysZero :=
  ⟨State.setF_f, State.setAF_f, by decide, fun _ _ => step_keeps_flagsLow⟩

/-! ### Construction (rule R280, rule R300) -/

/-- A store made from bytes reads, at an offset inside them, as the byte there. -/
theorem Memory.readCell_ofBytes {bytes : List Byte} {k : Nat} {b : Byte} (h : bytes[k]? = some b) :
    Memory.readCell (Memory.ofBytes bytes) k = b := by
  have hread := Memory.readCell_ofBytesFrom bytes 0 k
  rw [Nat.zero_add] at hread
  rw [Memory.ofBytes, hread, List.getD_eq_getElem?_getD, h, Option.getD_some]

theorem State.read8_boot_offset (s : State) {k : Nat} (hk : k < bootImageSize) :
    s.read8 (BitVec.ofNat 16 k) = .ok (Memory.readCell s.boot k) := by
  unfold bootImageSize at hk
  have ha : (BitVec.ofNat 16 k).toNat = k := by rw [BitVec.toNat_ofNat]; omega
  rw [State.read8, route_bootImage (by omega), ha]

theorem State.read8_vram_offset (s : State) {k : Nat} (hk : k < vramSize) :
    s.read8 (BitVec.ofNat 16 (0x8000 + k)) = .ok (Memory.readCell s.vram k) := by
  rw [State.read8, route_videoMemory_offset hk]

/-- The machine that `Start` gives. -/
def State.started (bootImage vramInit : List Byte) (p : Params) : State :=
  { State.reset with
    boot := Memory.ofBytes bootImage
    vram := Memory.ofBytes (vramInit.take vramSize)
    params := p }

theorem System.start_of_size {bootImage : List Byte} (h : bootImage.length = bootImageSize) (vramInit : List Byte)
    (p : Params) : System.start bootImage vramInit p =
      .ok { state := State.started bootImage vramInit p, driver := Driver.start, cartridge := none, ticked := false } := by
  rw [System.start, State.start, if_pos h]
  rfl

theorem System.start_of_wrong_size {bootImage : List Byte} (h : bootImage.length ≠ bootImageSize) (vramInit : List Byte)
    (p : Params) : System.start bootImage vramInit p = .error .bootImageSize := by
  rw [System.start, State.start, if_neg h]

/-- The boot image of a started machine reads as supplied (rule R280, rule R300). -/
theorem State.started_read8_boot {bootImage : List Byte} (hlen : bootImage.length = bootImageSize) (vramInit : List Byte)
    (p : Params) {k : Nat} {b : Byte} (hk : bootImage[k]? = some b) :
    (State.started bootImage vramInit p).read8 (BitVec.ofNat 16 k) = .ok b := by
  obtain ⟨hlt, _⟩ := List.getElem?_eq_some_iff.mp hk
  rw [State.read8_boot_offset _ (hlen ▸ hlt)]
  exact congrArg Except.ok (Memory.readCell_ofBytes hk)

/-- The video memory of a started machine reads as supplied (rule R300). -/
theorem State.started_read8_vram (bootImage : List Byte) {vramInit : List Byte} (hlen : vramInit.length = vramSize)
    (p : Params) {k : Nat} {b : Byte} (hk : vramInit[k]? = some b) :
    (State.started bootImage vramInit p).read8 (BitVec.ofNat 16 (0x8000 + k)) = .ok b := by
  obtain ⟨hlt, _⟩ := List.getElem?_eq_some_iff.mp hk
  have htake : vramInit.take vramSize = vramInit := List.take_of_length_le (Nat.le_of_eq hlen)
  rw [State.read8_vram_offset _ (hlen ▸ hlt)]
  exact congrArg Except.ok (Memory.readCell_ofBytes (htake.symm ▸ hk))

/-- Settles O12: `Start` is the size check and then `State.started`, whose registers are those of reset and whose stores read
as the bytes they were made of. -/
theorem startGivesTheResetMachine : Obligations.StartGivesTheResetMachine := by
  refine ⟨?started, ?wrongSize, by decide⟩
  case started =>
    intro bootImage vramInit p hboot hvram
    refine ⟨_, System.start_of_size hboot vramInit p, rfl, rfl, rfl, rfl, rfl, rfl, rfl, rfl, rfl, rfl, ?_, ?_, rfl, rfl⟩
    · exact fun k b => State.started_read8_boot hboot vramInit p
    · exact fun k b => State.started_read8_vram bootImage hvram p
  case wrongSize => exact fun _ vramInit p hboot => System.start_of_wrong_size hboot vramInit p

end Sys2Proof.Machine

/-! SUPPORT and SETTLED OBLIGATIONS. The accesses to memory, 8-bit by region and 16-bit by the two bytes
(spec/20_memory.md). -/

namespace Sys2Proof.Machine

/-! ### The answer of an 8-bit access in each region (rule R51, rule R52) -/

section
variable {a : Word} {k : Nat} (s : State) (v : Byte)

theorem State.read8_of_bootImage (h : route a = .bootImage k) : s.read8 a = .ok (Memory.readCell s.boot k) := by
  rw [State.read8, h]

theorem State.write8_of_bootImage (h : route a = .bootImage k) : s.write8 a v = .error (.accessError a .write) := by
  rw [State.write8, h]

theorem State.read8_of_videoMemory (h : route a = .videoMemory k) : s.read8 a = .ok (Memory.readCell s.vram k) := by
  rw [State.read8, h]

theorem State.write8_of_videoMemory (h : route a = .videoMemory k) :
    s.write8 a v = .ok { s with vram := Memory.writeCell s.vram k v } := by
  rw [State.write8, h]

theorem State.read8_of_controlRegister (h : route a = .controlRegister) : s.read8 a = .ok 0x00 := by
  rw [State.read8, h]

theorem State.write8_of_controlRegister (h : route a = .controlRegister) : s.write8 a v = .ok s := by
  rw [State.write8, h]

/-- The boot region beyond the image and the unclaimed addresses, the regions that no access succeeds in. -/
theorem State.read8_of_refused (h : route a = .bootBeyond ∨ route a = .unclaimed) :
    s.read8 a = .error (.accessError a .read) := by
  obtain h | h := h <;> rw [State.read8, h]

theorem State.write8_of_refused (h : route a = .bootBeyond ∨ route a = .unclaimed) :
    s.write8 a v = .error (.accessError a .write) := by
  obtain h | h := h <;> rw [State.write8, h]

end

/-- From the end of the boot image to video memory the rows of rule R53 are two, and both refuse. -/
theorem route_refused_below_vram {a : Word} (h : 0x0100 ≤ a.toNat) (h' : a.toNat ≤ 0x7FFF) :
    route a = .bootBeyond ∨ route a = .unclaimed := by
  obtain hfar | hnear := Nat.lt_or_ge 0x0FFF a.toNat
  · exact .inr (route_unclaimed (.inl ⟨hfar, h'⟩))
  · exact .inl (route_bootBeyond h hnear)

/-- Settles O8: each row names its region (`route_bootImage` and its like), and the region fixes both answers. -/
theorem accessesFollowThePartitionTable : Obligations.AccessesFollowThePartitionTable := by
  intro s a v
  refine ⟨?bootImage, ?belowVram, ?vram, ?aboveVram, ?echo, ?top, ?controlRegister⟩
  case bootImage =>
    intro h
    have hr := route_bootImage h
    exact ⟨s.read8_of_bootImage hr, s.write8_of_bootImage v hr⟩
  case belowVram =>
    intro h h'
    have hr := route_refused_below_vram h h'
    exact ⟨s.read8_of_refused hr, s.write8_of_refused v hr⟩
  case vram =>
    intro h h'
    have hr := route_videoMemory h h'
    exact ⟨s.read8_of_videoMemory hr, s.write8_of_videoMemory v hr⟩
  case aboveVram =>
    intro h h'
    have hr := route_unclaimed (.inr (.inl ⟨h, h'⟩))
    exact ⟨s.read8_of_refused (.inr hr), s.write8_of_refused v (.inr hr)⟩
  case echo =>
    intro h h'
    have hr := route_echo h h'
    exact ⟨s.read8_of_videoMemory hr, s.write8_of_videoMemory v hr⟩
  case top =>
    intro h h'
    have hr := route_unclaimed (.inr (.inr ⟨h, h'⟩))
    exact ⟨s.read8_of_refused (.inr hr), s.write8_of_refused v (.inr hr)⟩
  case controlRegister =>
    intro h
    have hr := route_controlRegister h
    exact ⟨s.read8_of_controlRegister hr, s.write8_of_controlRegister v hr⟩

/-! ### A 16-bit access from its two 8-bit accesses (rule R61, rule R62): the converses of `State.read16_ok`,
`State.write16_ok` and `State.write16_error` -/

section
variable {s : State} {a v : Word} {e : Fault}

theorem State.read16_of_read8 {lo hi : Byte} (hlo : s.read8 a = .ok lo) (hhi : s.read8 (a + 1) = .ok hi) :
    s.read16 a = .ok (joinBytes hi lo) := by
  simp only [State.read16, hlo, hhi]

theorem State.read16_of_low_error (hlo : s.read8 a = .error e) : s.read16 a = .error e := by
  simp only [State.read16, hlo]

theorem State.read16_of_high_error {lo : Byte} (hlo : s.read8 a = .ok lo) (hhi : s.read8 (a + 1) = .error e) :
    s.read16 a = .error e := by
  simp only [State.read16, hlo, hhi]

theorem State.write16_of_write8 {m t : State} (hlo : s.write8 a (loByte v) = .ok m)
    (hhi : m.write8 (a + 1) (hiByte v) = .ok t) : s.write16 a v = .ok t := by
  simp only [State.write16, hlo, hhi]

theorem State.write16_of_low_error (hlo : s.write8 a (loByte v) = .error e) : s.write16 a v = .error (e, s) := by
  simp only [State.write16, hlo]

theorem State.write16_of_high_error {m : State} (hlo : s.write8 a (loByte v) = .ok m)
    (hhi : m.write8 (a + 1) (hiByte v) = .error e) : s.write16 a v = .error (e, m) := by
  simp only [State.write16, hlo, hhi]

end

/-- Settles O10: the two reads are made in order, and the first error is the answer. -/
theorem wordReadIsTwoByteReads : Obligations.WordReadIsTwoByteReads := by
  intro s a
  refine ⟨?both, ?lowFails, ?highFails⟩
  case both => exact fun _ _ => State.read16_of_read8
  case lowFails => exact fun _ => State.read16_of_low_error
  case highFails => exact fun _ _ => State.read16_of_high_error

/-- Settles O11: the second write starts from the state after the first, which is the state an error of the second leaves. -/
theorem wordWriteIsTwoByteWrites : Obligations.WordWriteIsTwoByteWrites := by
  intro s a v
  refine ⟨?both, ?lowFails, ?highFails⟩
  case both => exact fun _ _ => State.write16_of_write8
  case lowFails => exact fun _ => State.write16_of_low_error
  case highFails => exact fun _ _ => State.write16_of_high_error

end Sys2Proof.Machine

/-! SUPPORT and SETTLED OBLIGATIONS. The encoding: what a first byte says of its instruction's length
(spec/30_encoding.md). -/

namespace Sys2Proof

/-! ### The length of an instruction, by family (rule R93) -/

section
variable (dst src r : Reg) (rr : Pair) (qq : StackPair) (op : AluOp) (cc : Cond) (n : Byte) (w : Word)

@[simp] theorem Instr.length_ldRegReg : (Instr.ldRegReg dst src).length = 1 := by cases dst <;> cases src <;> rfl
@[simp] theorem Instr.length_ldRegInd : (Instr.ldRegInd dst).length = 1 := by cases dst <;> rfl
@[simp] theorem Instr.length_ldIndReg : (Instr.ldIndReg src).length = 1 := by cases src <;> rfl
@[simp] theorem Instr.length_ldRegImm : (Instr.ldRegImm dst n).length = 2 := by cases dst <;> rfl
@[simp] theorem Instr.length_ldPairImm : (Instr.ldPairImm rr w).length = 3 := by cases rr <;> rfl
@[simp] theorem Instr.length_pushPair : (Instr.pushPair qq).length = 1 := by cases qq <;> rfl
@[simp] theorem Instr.length_popPair : (Instr.popPair qq).length = 1 := by cases qq <;> rfl
@[simp] theorem Instr.length_aluReg : (Instr.aluReg op r).length = 1 := by cases op <;> cases r <;> rfl
@[simp] theorem Instr.length_aluInd : (Instr.aluInd op).length = 1 := by cases op <;> rfl
@[simp] theorem Instr.length_aluImm : (Instr.aluImm op n).length = 2 := by cases op <;> rfl
@[simp] theorem Instr.length_incReg : (Instr.incReg dst).length = 1 := by cases dst <;> rfl
@[simp] theorem Instr.length_decReg : (Instr.decReg dst).length = 1 := by cases dst <;> rfl
@[simp] theorem Instr.length_incPair : (Instr.incPair rr).length = 1 := by cases rr <;> rfl
@[simp] theorem Instr.length_decPair : (Instr.decPair rr).length = 1 := by cases rr <;> rfl
@[simp] theorem Instr.length_addHLPair : (Instr.addHLPair rr).length = 1 := by cases rr <;> rfl
@[simp] theorem Instr.length_jrCond : (Instr.jrCond cc n).length = 2 := by cases cc <;> rfl
@[simp] theorem Instr.length_jpCond : (Instr.jpCond cc w).length = 3 := by cases cc <;> rfl
@[simp] theorem Instr.length_callCond : (Instr.callCond cc w).length = 3 := by cases cc <;> rfl
@[simp] theorem Instr.length_retCond : (Instr.retCond cc).length = 1 := by cases cc <;> rfl
@[simp] theorem Instr.length_rst (k : Fin 8) : (Instr.rst k).length = 1 := by fin_cases k <;> rfl

end

/-- The extended table holds instructions of two bytes alone (rule R94). -/
@[simp] theorem length_decodeExtended : ∀ ext : Byte, (decodeExtended ext).length = 2 := by decide

/-! ### The length an opening tells (rule R80) -/

/-- The number of bytes a first byte tells of its instruction. -/
def Opening.length : Opening → Nat
  | .plain _ => 1
  | .imm8 _ => 2
  | .imm16 _ => 3
  | .prefixed => 2

/-- Every instruction that the opening makes, whatever bytes follow, has the length the opening tells. -/
def Opening.Sized : Opening → Prop
  | .plain i => i.length = 1
  | .imm8 f => ∀ n, (f n).length = 2
  | .imm16 f => ∀ w, (f w).length = 3
  | .prefixed => ∀ ext, (decodeExtended ext).length = 2

/-- One case for each value of the field `z`, in it the rows of `y`: an instruction written out is measured by `rfl`, a family by its lemma. -/
theorem decodeQuadrant0_sized (y z : Nat) : (decodeQuadrant0 y z).Sized := by
  unfold decodeQuadrant0
  split
  · split
    exacts [rfl, fun _ => rfl, fun _ => rfl, fun _ => rfl, Instr.length_jrCond _]
  · split
    exacts [Instr.length_ldPairImm _, Instr.length_addHLPair _]
  · split <;> rfl
  · split
    exacts [Instr.length_incPair _, Instr.length_decPair _]
  · split
    exacts [Instr.length_incReg _, rfl]
  · split
    exacts [Instr.length_decReg _, rfl]
  · split
    exacts [Instr.length_ldRegImm _, fun _ => rfl]
  · split <;> rfl

theorem length_decodeQuadrant1 (y z : Nat) : (decodeQuadrant1 y z).length = 1 := by
  unfold decodeQuadrant1
  split
  exacts [Instr.length_ldRegReg _ _, Instr.length_ldRegInd _, Instr.length_ldIndReg _, rfl]

theorem length_decodeQuadrant2 (y z : Nat) : (decodeQuadrant2 y z).length = 1 := by
  unfold decodeQuadrant2
  split
  exacts [Instr.length_aluReg _ _, Instr.length_aluInd _]

theorem decodeQuadrant3_sized (y z : Nat) : (decodeQuadrant3 y z).Sized := by
  unfold decodeQuadrant3
  split
  · split
    exacts [fun _ => rfl, fun _ => rfl, fun _ => rfl, fun _ => rfl, Instr.length_retCond _]
  · split
    exacts [rfl, rfl, rfl, rfl, Instr.length_popPair _]
  · split
    exacts [rfl, fun _ => rfl, rfl, fun _ => rfl, Instr.length_jpCond _]
  · split
    exacts [fun _ => rfl, length_decodeExtended, rfl, rfl, rfl, rfl, rfl, rfl]
  · split
    exacts [rfl, rfl, rfl, rfl, Instr.length_callCond _]
  · split
    exacts [fun _ => rfl, rfl, rfl, rfl, Instr.length_pushPair _]
  · exact Instr.length_aluImm _
  · exact Instr.length_rst _

theorem decodePrimary_sized (op : Byte) : (decodePrimary op).Sized := by
  unfold decodePrimary
  split
  · exact decodeQuadrant0_sized _ _
  · exact length_decodeQuadrant1 _ _
  · exact length_decodeQuadrant2 _ _
  · exact decodeQuadrant3_sized _ _

/-! ### The length of a decoded instruction -/

/-- A decoded instruction is one its first byte's opening makes, and so has the length that opening tells.
Of the decoder's seven rows three reject; the others are the four openings. -/
theorem length_of_decode {op : Byte} {tail rest : List Byte} {i : Instr} (h : decode (op :: tail) = .ok (i, rest)) :
    i.length = (decodePrimary op).length := by
  have hsized := decodePrimary_sized op
  unfold decode at h
  dsimp only at h
  split at h <;> cases h
  case h_1 ho => rw [ho] at hsized ⊢; exact hsized
  case h_2 n ho => rw [ho] at hsized ⊢; exact hsized n
  case h_4 lo hi ho => rw [ho] at hsized ⊢; exact hsized (immWord lo hi)
  case h_6 ext ho => rw [ho] at hsized ⊢; exact hsized ext

/-- Settles O4: the length is the one the opening of the first byte tells (`length_of_decode`), and rule R96's lists are the
first bytes of each kind of opening. -/
theorem lengthIsToldByTheFirstByte : Obligations.LengthIsToldByTheFirstByte := by
  intro op tail i rest h
  rw [length_of_decode h]
  clear h
  revert op
  decide

end Sys2Proof

/-! SUPPORT and SETTLED OBLIGATIONS. A fetch that is cut short, what an instruction that reads or writes one byte answers,
and the 8-bit loads and stores with LD rr,d16 and LD SP,HL (spec/40_load8.md, spec/41_load16.md). -/

namespace Sys2Proof.Machine

open Sys2Proof.Claims

/-! ### A fetch that is cut short (rule R81, rule R84, rule R275) -/

section
variable {s : State} {op : Byte}

theorem fetchInstr_of_unreadable (h : ∀ v, s.read8 s.pc ≠ .ok v) : fetchInstr s = .raised (.accessError s.pc .read) s := by
  rw [fetchInstr, fetch8_of_unreadable h]

section
variable (hread : s.read8 s.pc = .ok op) (hmap : s.params.leavesOutPrimary op = false)
include hread hmap

theorem fetchInstr_of_imm8 {f : Byte → Instr} (ho : decodePrimary op = .imm8 f) :
    fetchInstr s = fetchImm8 f (s.setPC (s.pc + 1)) := by
  simp only [fetchInstr, fetch8_of_read8 hread, hmap, ho, Bool.false_eq_true, if_false]

theorem fetchInstr_of_imm16 {f : Word → Instr} (ho : decodePrimary op = .imm16 f) :
    fetchInstr s = fetchImm16 f (s.setPC (s.pc + 1)) := by
  simp only [fetchInstr, fetch8_of_read8 hread, hmap, ho, Bool.false_eq_true, if_false]

theorem fetchInstr_of_prefixed (ho : decodePrimary op = .prefixed) :
    fetchInstr s = fetchExtended s.pc (s.setPC (s.pc + 1)) := by
  simp only [fetchInstr, fetch8_of_read8 hread, hmap, ho, Bool.false_eq_true, if_false]

end

theorem fetchImm8_of_unreadable (f : Byte → Instr) (h : ∀ v, s.read8 s.pc ≠ .ok v) :
    fetchImm8 f s = .raised (.accessError s.pc .read) s := by
  rw [fetchImm8, fetch8_of_unreadable h]

theorem fetchExtended_of_unreadable (pc0 : Word) (h : ∀ v, s.read8 s.pc ≠ .ok v) :
    fetchExtended pc0 s = .raised (.accessError s.pc .read) s := by
  rw [fetchExtended, fetch8_of_unreadable h]

theorem fetchImm16_of_low_unreadable (f : Word → Instr) (h : ∀ v, s.read8 s.pc ≠ .ok v) :
    fetchImm16 f s = .raised (.accessError s.pc .read) s := by
  rw [fetchImm16, fetch8_of_unreadable h]

theorem fetchImm16_of_high_unreadable (f : Word → Instr) {lo : Byte} (hlo : s.read8 s.pc = .ok lo)
    (h : ∀ v, s.read8 (s.pc + 1) ≠ .ok v) :
    fetchImm16 f s = .raised (.accessError (s.pc + 1) .read) (s.setPC (s.pc + 1)) := by
  have hhi : fetch8 (s.setPC (s.pc + 1)) = .error (.accessError (s.pc + 1) .read) := fetch8_of_unreadable h
  simp only [fetchImm16, fetch8_of_read8 hlo, hhi]

end

/-- A build that has an instruction has its first byte in the primary table (rule R92). -/
theorem leavesOutPrimary_of_wellFormed {p : Params} {i : Instr} {op : Byte} {rest : List Byte} (h : WellFormed p i = true)
    (he : encode i = op :: rest) : p.leavesOutPrimary op = false := by
  obtain ⟨op', rest', he', hmap, _⟩ := WellFormed.bytes h
  cases he.symm.trans he'
  exact hmap

/-- An instruction's bytes, of which the first `j` can be read and the next cannot: the fetch raises at that byte, whichever of
the four openings the instruction has. -/
theorem fetchInstr_cut_short {s : State} {i : Instr} {bytes : List Byte} {j : Nat} (hd : decode bytes = .ok (i, []))
    (he : encode i = bytes) (hwf : WellFormed s.params i = true) (hj : j < bytes.length)
    (hread : ∀ k b, k < j → bytes[k]? = some b → s.read8 (s.pc + BitVec.ofNat 16 k) = .ok b)
    (hcut : ∀ b, s.read8 (s.pc + BitVec.ofNat 16 j) ≠ .ok b) :
    fetchInstr s =
      .raised (.accessError (s.pc + BitVec.ofNat 16 j) .read) (s.setPC (s.pc + BitVec.ofNat 16 j)) := by
  obtain ⟨op, rest, rfl, hopening⟩ := decode_cases hd
  have hzero : s.pc + BitVec.ofNat 16 0 = s.pc := BitVec.add_zero s.pc
  cases j with
  | zero =>
    rw [hzero] at hcut ⊢
    exact fetchInstr_of_unreadable hcut
  | succ j =>
    have hop : s.read8 s.pc = .ok op := hzero ▸ hread 0 op (Nat.succ_pos j) rfl
    have hmap : s.params.leavesOutPrimary op = false := leavesOutPrimary_of_wellFormed hwf he
    obtain ⟨_, rfl⟩ | ⟨f, n, ho, rfl, _⟩ | ⟨f, lo, hi, ho, rfl, _⟩ | ⟨ext, ho, _, rfl, _⟩ := hopening
    · exact absurd hj (by simp)
    · obtain rfl : j = 0 := by simpa using hj
      rw [fetchInstr_of_imm8 hop hmap ho]
      exact fetchImm8_of_unreadable f hcut
    · rw [fetchInstr_of_imm16 hop hmap ho]
      obtain rfl | rfl : j = 0 ∨ j = 1 := by simp only [List.length_cons, List.length_nil] at hj; omega
      · exact fetchImm16_of_low_unreadable f hcut
      · have htwo : s.pc + BitVec.ofNat 16 2 = s.pc + 1 + 1 := (BitVec.add_assoc s.pc 1 1).symm
        rw [htwo] at hcut ⊢
        exact fetchImm16_of_high_unreadable f (hread 1 lo Nat.one_lt_two rfl) hcut
    · obtain rfl : j = 0 := by simpa using hj
      rw [fetchInstr_of_prefixed hop hmap ho]
      exact fetchExtended_of_unreadable s.pc hcut

theorem executeInstruction_of_raised {s t : State} {e : Fault} (hh : s.halted = false) (h : fetchInstr s = .raised e t) :
    executeInstruction s = .next { t with fault := some e } := by
  simp only [executeInstruction, hh, h, Bool.false_eq_true, if_false, raise_eq]

/-- An instruction is fetched as the bytes that encode it and decode to it. -/
theorem fetchedAs_of_decode {i : Instr} {bytes : List Byte} (he : encode i = bytes) (hd : decode bytes = .ok (i, [])) :
    FetchedAs i bytes :=
  ⟨he, fun _ _ hh hwf hj hread hcut => executeInstruction_of_raised hh (fetchInstr_cut_short hd he hwf hj hread hcut)⟩

/-- The form with an immediate word, whose bytes stand low byte first (rule R82). -/
theorem fetchedAs_of_decode_word {c : Word → Instr} {op lo hi : Byte} (he : ∀ w, encode (c w) = [op, immLow w, immHigh w])
    (hd : decode [op, lo, hi] = .ok (c (hi ++ lo), [])) : FetchedAs (c (hi ++ lo)) [op, lo, hi] := by
  refine fetchedAs_of_decode ?_ hd
  have hlo : immLow (hi ++ lo) = lo := loByte_joinBytes hi lo
  have hhi : immHigh (hi ++ lo) = hi := hiByte_joinBytes hi lo
  rw [he, hlo, hhi]

/-! ### One byte read or written (rule R51, rule R52) -/

section
variable {s : State} {a : Word} {v : Byte}

theorem withByte_of_read8 (k : Byte → State → Result) (h : s.read8 a = .ok v) : withByte a k s = k v s := by
  simp only [withByte, h]

theorem withByte_of_unreadable (k : Byte → State → Result) (h : ∀ v, s.read8 a ≠ .ok v) :
    withByte a k s = .next { s with fault := some (.accessError a .read) } := by
  cases hr : s.read8 a with
  | ok v => exact absurd hr (h v)
  | error e => simp only [withByte, hr, raise_eq, State.read8_error hr]

theorem storeByte_of_write8 (k : State → Result) {t : State} (h : s.write8 a v = .ok t) : storeByte a v k s = k t := by
  simp only [storeByte, h]

theorem storeByte_of_unwritable (k : State → Result) (h : ∀ t, s.write8 a v ≠ .ok t) :
    storeByte a v k s = .next { s with fault := some (.accessError a .write) } := by
  cases hw : s.write8 a v with
  | ok t => exact absurd hw (h t)
  | error e => simp only [storeByte, hw, raise_eq, State.write8_error hw]

end

section
variable {i : Instr} {bytes : List Byte} {addr : State → Word} {cost : Nat}

/-- An instruction that is `withByte` at its address loads from there, with the effect that follows the read. -/
theorem loadsFrom_of_withByte {k : State → Byte → State → Result} {effect : Byte → State → State} (hf : FetchedAs i bytes)
    (hexec : ∀ s, exec i s = withByte (addr s) (k s) s) (hk : ∀ s v, k s v s = complete cost (effect v s)) :
    LoadsFrom i bytes addr cost effect := by
  refine ⟨hf, fun s => ⟨fun v hv => ?_, fun hv => ?_⟩⟩
  · rw [hexec, withByte_of_read8 _ hv, hk, complete_eq]
  · rw [hexec, withByte_of_unreadable _ hv]

/-- An instruction that is `storeByte` at its address stores there, with what follows the write. -/
theorem storesTo_of_storeByte {k : State → State → Result} {value : State → Byte} {after : State → State}
    (hf : FetchedAs i bytes) (hexec : ∀ s, exec i s = storeByte (addr s) (value s) (k s) s)
    (hk : ∀ s t, s.write8 (addr s) (value s) = .ok t → k s t = complete cost (after t)) :
    StoresTo i bytes addr value cost after := by
  refine ⟨hf, fun s => ⟨fun t ht => ?_, fun ht => ?_⟩⟩
  · rw [hexec, storeByte_of_write8 _ ht, hk s t ht, complete_eq]
  · rw [hexec, storeByte_of_unwritable _ ht]

theorem loadsFrom_of_loadOp {dst : Reg} (hf : FetchedAs i bytes) (hexec : ∀ s, exec i s = loadOp dst (addr s) cost s) :
    LoadsFrom i bytes addr cost (fun v s => s.setReg dst v) :=
  loadsFrom_of_withByte hf hexec fun _ _ => rfl

theorem storesTo_of_storeOp {value : State → Byte} (hf : FetchedAs i bytes)
    (hexec : ∀ s, exec i s = storeOp (addr s) (value s) cost s) : StoresTo i bytes addr value cost id :=
  storesTo_of_storeByte hf hexec fun _ _ _ => rfl

theorem loadsFrom_of_loadStepOp {delta : Word} (hf : FetchedAs i bytes) (hexec : ∀ s, exec i s = loadStepOp delta cost s) :
    LoadsFrom i bytes State.hl cost (fun v s => { s.setA v with hl := s.hl + delta }) :=
  loadsFrom_of_withByte hf hexec fun _ _ => rfl

/-- The store leaves `HL`, so that moving it after the store is moving what the store was given. -/
theorem storesTo_of_storeStepOp {delta : Word} (hf : FetchedAs i bytes) (hexec : ∀ s, exec i s = storeStepOp delta cost s) :
    StoresTo i bytes State.hl State.a cost (fun t => { t with hl := t.hl + delta }) := by
  refine storesTo_of_storeByte hf hexec fun s t ht => ?_
  have hhl : t.hl = s.hl := by rw [State.write8_ok_eq ht]
  rw [hhl]
  rfl

end

/-! ### The bytes of the families (rule R111 to rule R114, rule R141) -/

theorem fetchedAs_ldRegReg (dst src : Reg) :
    FetchedAs (.ldRegReg dst src) [0x40 ||| (regCode dst <<< 3) ||| regCode src] := by
  cases dst <;> cases src <;> exact fetchedAs_of_decode rfl rfl

theorem fetchedAs_ldRegImm (dst : Reg) (n : Byte) : FetchedAs (.ldRegImm dst n) [0x06 ||| (regCode dst <<< 3), n] := by
  cases dst <;> exact fetchedAs_of_decode rfl rfl

theorem fetchedAs_ldPairImm (rr : Pair) (lo hi : Byte) :
    FetchedAs (.ldPairImm rr (hi ++ lo)) [0x01 ||| (pairCode rr <<< 4), lo, hi] := by
  cases rr <;> exact fetchedAs_of_decode_word (c := .ldPairImm _) (fun _ => rfl) rfl

theorem fetchedAs_ldRegInd (dst : Reg) : FetchedAs (.ldRegInd dst) [0x46 ||| (regCode dst <<< 3)] := by
  cases dst <;> exact fetchedAs_of_decode rfl rfl

theorem fetchedAs_ldIndReg (src : Reg) : FetchedAs (.ldIndReg src) [0x70 ||| regCode src] := by
  cases src <;> exact fetchedAs_of_decode rfl rfl

/-- Settles O31: each of these instructions is one write and its cost, at every state (`exec_ldRegReg` and its like). -/
theorem registerAndImmediateLoads : Obligations.RegisterAndImmediateLoads := by
  refine ⟨?regReg, ?regImm, ?pairImm, ?spHL⟩
  case regReg => exact fun dst src => ⟨fetchedAs_ldRegReg dst src, exec_ldRegReg dst src⟩
  case regImm => exact fun dst n => ⟨fetchedAs_ldRegImm dst n, exec_ldRegImm dst n⟩
  case pairImm => exact fun rr lo hi => ⟨fetchedAs_ldPairImm rr lo hi, exec_ldPairImm rr (hi ++ lo)⟩
  case spHL => exact ⟨fetchedAs_of_decode rfl rfl, exec_ldSPHL⟩

/-- Settles O32: each form is `loadOp` at its own address (`loadsFrom_of_loadOp`), and the two stepping forms are `loadStepOp`,
where adding -1 is the subtraction of 1 (`add_neg_one`). -/
theorem loadsFromMemory : Obligations.LoadsFromMemory := by
  refine ⟨?indHL, ?indBC, ?indDE, ?inc, ?dec, ?indA16, ?topA8, ?topC⟩
  case indHL => exact fun dst => loadsFrom_of_loadOp (fetchedAs_ldRegInd dst) (exec_ldRegInd dst)
  case indBC => exact loadsFrom_of_loadOp (fetchedAs_of_decode rfl rfl) exec_ldAIndBC
  case indDE => exact loadsFrom_of_loadOp (fetchedAs_of_decode rfl rfl) exec_ldAIndDE
  case inc => exact loadsFrom_of_loadStepOp (fetchedAs_of_decode rfl rfl) exec_ldAIndHLInc
  case dec =>
    simp only [← add_neg_one]
    exact loadsFrom_of_loadStepOp (fetchedAs_of_decode rfl rfl) exec_ldAIndHLDec
  case indA16 =>
    exact fun lo hi => loadsFrom_of_loadOp (fetchedAs_of_decode_word (fun _ => rfl) rfl) (exec_ldAIndA16 (hi ++ lo))
  case topA8 => exact fun n => loadsFrom_of_loadOp (fetchedAs_of_decode rfl rfl) (exec_ldhAIndA8 n)
  case topC => exact loadsFrom_of_loadOp (fetchedAs_of_decode rfl rfl) exec_ldAIndC

/-- Settles O33: each form is `storeOp` at its own address (`storesTo_of_storeOp`), and the two stepping forms are `storeStepOp`,
whose store leaves `HL` to be moved after it (`storesTo_of_storeStepOp`). -/
theorem storesToMemory : Obligations.StoresToMemory := by
  refine ⟨?reg, ?imm, ?indBC, ?indDE, ?inc, ?dec, ?indA16, ?topA8, ?topC⟩
  case reg => exact fun src => storesTo_of_storeOp (fetchedAs_ldIndReg src) (exec_ldIndReg src)
  case imm => exact fun n => storesTo_of_storeOp (fetchedAs_of_decode rfl rfl) (exec_ldIndHLD8 n)
  case indBC => exact storesTo_of_storeOp (fetchedAs_of_decode rfl rfl) exec_ldIndBCA
  case indDE => exact storesTo_of_storeOp (fetchedAs_of_decode rfl rfl) exec_ldIndDEA
  case inc => exact storesTo_of_storeStepOp (fetchedAs_of_decode rfl rfl) exec_ldIndHLIncA
  case dec =>
    simp only [← add_neg_one]
    exact storesTo_of_storeStepOp (fetchedAs_of_decode rfl rfl) exec_ldIndHLDecA
  case indA16 =>
    exact fun lo hi => storesTo_of_storeOp (fetchedAs_of_decode_word (fun _ => rfl) rfl) (exec_ldIndA16A (hi ++ lo))
  case topA8 => exact fun n => storesTo_of_storeOp (fetchedAs_of_decode rfl rfl) (exec_ldhIndA8A n)
  case topC => exact storesTo_of_storeOp (fetchedAs_of_decode rfl rfl) exec_ldIndCA

end Sys2Proof.Machine

/-! SUPPORT and SETTLED OBLIGATIONS. The 16-bit loads that use memory or `SP + e8`, PUSH and POP (spec/41_load16.md,
spec/43_alu16.md rule R193). -/

namespace Sys2Proof.Machine

open Sys2Proof.Claims

/-! ### The store of `SP` (rule R142) -/

section
variable {s t : State} {addr : Word} {e : Fault} (cost : Nat)

theorem storeSPOp_of_write16 (h : s.write16 addr s.sp = .ok t) :
    storeSPOp addr cost s = .next { t with counter := cost - 1 } := by
  simp only [storeSPOp, h, complete_eq]

theorem storeSPOp_of_write16_error (h : s.write16 addr s.sp = .error (e, t)) :
    storeSPOp addr cost s = .next { t with fault := some e } := by
  simp only [storeSPOp, h, raise_eq]

end

/-- The only error of an 8-bit write is the access error of its address (rule R60, rule R272). -/
theorem State.write8_of_unwritable {s : State} {a : Word} {v : Byte} (h : ∀ t, s.write8 a v ≠ .ok t) :
    s.write8 a v = .error (.accessError a .write) := by
  cases hw : s.write8 a v with
  | ok t => exact absurd hw (h t)
  | error e => rw [State.write8_error hw]

/-- Settles O34: the instruction is one 16-bit write (`storeSPOp_of_write16` and its like), whose three outcomes are those of
its two 8-bit writes. -/
theorem storeOfTheStackPointer : Obligations.StoreOfTheStackPointer := by
  intro lo hi
  refine ⟨fetchedAs_of_decode_word (fun _ => rfl) rfl, fun s => ⟨?both, ?lowFails, ?highFails⟩⟩
  all_goals simp only [exec_ldIndA16SP]
  case both => exact fun m t hlo hhi => storeSPOp_of_write16 5 (State.write16_of_write8 hlo hhi)
  case lowFails =>
    exact fun hlo => storeSPOp_of_write16_error 5 (State.write16_of_low_error (State.write8_of_unwritable hlo))
  case highFails =>
    exact fun m hlo hhi => storeSPOp_of_write16_error 5 (State.write16_of_high_error hlo (State.write8_of_unwritable hhi))

/-! ### `SP + e8` (rule R144, rule R193) -/

/-- The sum is the integer one mod 2^16, and the low nibble and the low byte that the carries are taken from are the masked
ones. -/
theorem addSPSigned_eq (sp : Word) (n : Byte) :
    addSPSigned sp n =
      (BitVec.ofInt 16 (sp.toNat + n.toInt),
        ⟨false, false, decide ((sp &&& 0x0F).toNat + nibble n > 0x0F), decide ((sp &&& 0xFF).toNat + n.toNat > 0xFF)⟩) := by
  rw [addSPSigned, add_signExtendByte, nibble, toNat_and_0F, toNat_and_000F, toNat_and_00FF]

/-- Settles O35: both instructions write the flags and the sum of `addSPSigned` (`addSPSigned_eq`), one to `HL` and one to
`SP`. -/
theorem stackPointerPlusDisplacement : Obligations.StackPointerPlusDisplacement := by
  intro n
  refine ⟨⟨fetchedAs_of_decode rfl rfl, fun s => ?intoHL⟩, ⟨fetchedAs_of_decode rfl rfl, fun s => ?intoSP⟩⟩
  case intoHL =>
    rw [exec_ldHLSPE8, ldHLSPOp, addSPSigned_eq, complete_eq]
    rfl
  case intoSP =>
    rw [exec_addSPE8, addSPOp, addSPSigned_eq, complete_eq]
    rfl

/-! ### PUSH and POP (rule R145 to rule R147) -/

theorem State.pop_of_read16 {s : State} {v : Word} (h : s.read16 s.sp = .ok v) : s.pop = .ok (v, s.setSP (s.sp + 2)) := by
  simp only [State.pop, h]

theorem State.pop_of_read16_error {s : State} {e : Fault} (h : s.read16 s.sp = .error e) : s.pop = .error e := by
  simp only [State.pop, h]

/-- A push is the 16-bit write at the lowered `SP`, so that the instruction ends as the write does. -/
theorem pushPair_pushes (qq : StackPair) (s : State) : Pushes (.pushPair qq) s (s.stackPair qq) 4 id := by
  refine ⟨fun t ht => ?written, fun e t ht => ?refused⟩
  case written => simp only [exec_pushPair, pushOp, State.push, ht, complete_eq, id_eq]
  case refused => simp only [exec_pushPair, pushOp, State.push, ht, raise_eq]

/-- A pop is the 16-bit read at `SP`, after which the slot is written. -/
theorem popPair_pops (qq : StackPair) (s : State) : Pops (.popPair qq) s 3 (fun v t => t.setStackPair qq v) := by
  refine ⟨fun v hv => ?read, fun e he => ?refused⟩
  case read => simp only [exec_popPair, popOp, State.pop_of_read16 hv, complete_eq]
  case refused => simp only [exec_popPair, popOp, State.pop_of_read16_error he, raise_eq]

/-- A write of `AF` is the write of `A` and the masked write of `F` (rule R25, rule R147). -/
theorem State.setAF_eq_setF_setA (s : State) (v : Word) : s.setAF v = (s.setA (hiByte v)).setF (loByte v &&& 0xF0) := by
  rw [State.setAF, State.setF, State.setA_af, hiByte_joinBytes, and_F0_and_F0, and_FFF0_eq]
  rfl

theorem popAF_pops (s : State) :
    Pops (.popPair .af) s 3 (fun v t => (t.setA (hiByte v)).setF (loByte v &&& 0xF0)) := by
  simp only [← State.setAF_eq_setF_setA]
  exact popPair_pops .af s

theorem fetchedAs_pushPair (qq : StackPair) : FetchedAs (.pushPair qq) [0xC5 ||| (stackCode qq <<< 4)] := by
  cases qq <;> exact fetchedAs_of_decode rfl rfl

theorem fetchedAs_popPair (qq : StackPair) : FetchedAs (.popPair qq) [0xC1 ||| (stackCode qq <<< 4)] := by
  cases qq <;> exact fetchedAs_of_decode rfl rfl

/-- Settles O36: every slot is pushed and popped alike (`pushPair_pushes`, `popPair_pops`), and the write of `AF` is that of `A`
and of the masked `F` (`popAF_pops`). -/
theorem pushAndPop : Obligations.PushAndPop := by
  refine ⟨fun qq => ⟨fetchedAs_pushPair qq, pushPair_pushes qq⟩, fetchedAs_popPair, fun s => ⟨?bc, ?de, ?hl, ?af⟩⟩
  case bc => exact popPair_pops .bc s
  case de => exact popPair_pops .de s
  case hl => exact popPair_pops .hl s
  case af => exact popAF_pops s

end Sys2Proof.Machine

/-! SUPPORT and SETTLED OBLIGATIONS. The read-modify-write of the byte at `HL`, and the 8-bit arithmetic and logic
(spec/42_alu8.md). -/

namespace Sys2Proof.Machine

open Sys2Proof.Claims

/-! ### The integers of the rules and the bytes of the model (rule R7) -/

theorem nibble_eq_mod (v : Byte) : nibble v = v.toNat % 16 := toNat_and_0F v

theorem bitNat_eq_toNat (b : Bool) : bitNat b = b.toNat := by cases b <;> rfl

/-- A byte is what its integer narrows to. -/
theorem ofInt_toNat_byte (a : Byte) : BitVec.ofInt 8 a.toNat = a := by
  rw [BitVec.ofInt_natCast, BitVec.ofNat_toNat, BitVec.setWidth_eq]

/-- Narrowing an exact integer difference is subtracting the narrowed integers. -/
theorem ofInt_sub_byte (x y : Int) : BitVec.ofInt 8 (x - y) = BitVec.ofInt 8 x - BitVec.ofInt 8 y := by
  rw [Int.sub_eq_add_neg, BitVec.ofInt_add, BitVec.ofInt_neg, BitVec.sub_eq_add_neg]

/-! ### The accumulator operations (rule R160 to rule R168) -/

/-- The sum and its carries, with the nibbles cut by the mask as rule R162 cuts them. -/
theorem addBytes_eq (a v : Byte) (c : Bool) :
    addBytes a v c =
      (BitVec.ofNat 8 (a.toNat + v.toNat + c.toNat),
        ⟨BitVec.ofNat 8 (a.toNat + v.toNat + c.toNat) == 0, false, decide (nibble a + nibble v + c.toNat > 0x0F),
          decide (a.toNat + v.toNat + c.toNat > 0xFF)⟩) := by
  rw [addBytes, bitNat_eq_toNat, nibble_eq_mod, nibble_eq_mod]

/-- The difference is the subtraction of bytes, and its borrows are those of rule R164. -/
theorem subBytes_eq (a v : Byte) (c : Bool) :
    subBytes a v c =
      (a - v - BitVec.ofNat 8 c.toNat,
        ⟨a - v - BitVec.ofNat 8 c.toNat == 0, true, decide (nibble a < nibble v + c.toNat),
          decide (a.toNat < v.toNat + c.toNat)⟩) := by
  have hdiff : BitVec.ofInt 8 ((a.toNat : Int) - v.toNat - (c.toNat : Nat)) = a - v - BitVec.ofNat 8 c.toNat := by
    rw [ofInt_sub_byte, ofInt_sub_byte, ofInt_toNat_byte, ofInt_toNat_byte, BitVec.ofInt_natCast]
  rw [subBytes, bitNat_eq_toNat, hdiff, nibble_eq_mod, nibble_eq_mod]

/-- Without a carry in, nothing is subtracted but the operand (rule R163). -/
theorem subBytes_false_eq (a v : Byte) :
    subBytes a v false =
      (a - v, ⟨a - v == 0, true, decide (nibble a < nibble v), decide (a.toNat < v.toNat)⟩) := by
  rw [subBytes_eq, Bool.toNat_false, BitVec.sub_zero]
  rfl

/-- Every accumulator operation but CP writes its result to `A` and then its flags (rule R160). -/
theorem applyAlu_of_ne_cp {op : AluOp} (h : op ≠ .cp) (v : Byte) (s : State) :
    applyAlu op v s = (s.setA (aluResult op s.a v s.flagC).1).setFlags (aluResult op s.a v s.flagC).2 := by
  cases op with
  | cp => exact absurd rfl h
  | _ => rfl

theorem applyAlu_cp (v : Byte) (s : State) : applyAlu .cp v s = s.setFlags (subBytes s.a v false).2 := rfl

theorem fetchedAs_aluReg (op : AluOp) (r : Reg) :
    FetchedAs (.aluReg op r) [0x80 ||| (aluCode op <<< 3) ||| regCode r] := by
  cases op <;> cases r <;> exact fetchedAs_of_decode rfl rfl

theorem fetchedAs_aluInd (op : AluOp) : FetchedAs (.aluInd op) [0x86 ||| (aluCode op <<< 3)] := by
  cases op <;> exact fetchedAs_of_decode rfl rfl

theorem fetchedAs_aluImm (op : AluOp) (n : Byte) : FetchedAs (.aluImm op n) [0xC6 ||| (aluCode op <<< 3), n] := by
  cases op <;> exact fetchedAs_of_decode rfl rfl

/-- The three forms of an operation differ in where the operand comes from alone: what is left to say of one operation is what
`applyAlu` makes of a byte. -/
theorem accumulates_of_applyAlu {op : AluOp} {effect : Byte → State → State} (h : ∀ v s, applyAlu op v s = effect v s) :
    Accumulates op effect := by
  have haluOp : ∀ v cost s, aluOp op v cost s = .next { effect v s with counter := cost - 1 } := fun v cost s => by
    rw [aluOp, complete_eq, h]
  refine ⟨fun r => ⟨fetchedAs_aluReg op r, fun s => ?reg⟩, ?ind, fun n => ⟨fetchedAs_aluImm op n, fun s => ?imm⟩⟩
  case reg => rw [exec_aluReg, haluOp]
  case ind => exact loadsFrom_of_withByte (fetchedAs_aluInd op) (exec_aluInd op) fun s v => by rw [h]
  case imm => rw [exec_aluImm, haluOp]

/-- Settles O38: both operations write the sum and the flags of `addBytes` (`addBytes_eq`), ADD with no carry in. -/
theorem addAndAddWithCarry : Obligations.AddAndAddWithCarry := by
  refine ⟨accumulates_of_applyAlu fun v s => ?add, accumulates_of_applyAlu fun v s => ?adc⟩
  all_goals rw [applyAlu_of_ne_cp (by decide), aluResult, addBytes_eq]
  case add => rfl

/-- Settles O39: the three operations take the difference and the flags of `subBytes` (`subBytes_eq`), SUB and CP with no
borrow in, and CP writes the flags alone (`applyAlu_cp`). -/
theorem subtractAndCompare : Obligations.SubtractAndCompare := by
  refine ⟨accumulates_of_applyAlu fun v s => ?sub, accumulates_of_applyAlu fun v s => ?sbc,
    accumulates_of_applyAlu fun v s => ?cp⟩
  case sub => rw [applyAlu_of_ne_cp (by decide), aluResult, subBytes_false_eq]
  case sbc => rw [applyAlu_of_ne_cp (by decide), aluResult, subBytes_eq]
  case cp => rw [applyAlu_cp, subBytes_false_eq]

/-- Settles O40: the three operations write `A` and the flags (`applyAlu_of_ne_cp`) from the bitwise results of `aluResult`. -/
theorem bitwiseAccumulatorOperations : Obligations.BitwiseAccumulatorOperations := by
  refine ⟨?and, ?xor, ?or⟩
  all_goals exact accumulates_of_applyAlu (applyAlu_of_ne_cp (by decide))

/-! ### The read-modify-write of the byte at `HL` (rule R204) -/

section
variable {s t : State} {v : Byte} (f : Byte → Byte) (after : Byte → State → State) (cost : Nat)

theorem modifyAtHL_of_write8 (hv : s.read8 s.hl = .ok v) (ht : s.write8 s.hl (f v) = .ok t) :
    modifyAtHL f after cost s = .next { after v t with counter := cost - 1 } := by
  rw [modifyAtHL, withByte_of_read8 _ hv, storeByte_of_write8 _ ht, complete_eq]

theorem modifyAtHL_of_unwritable (hv : s.read8 s.hl = .ok v) (ht : ∀ t, s.write8 s.hl (f v) ≠ .ok t) :
    modifyAtHL f after cost s = .next { s with fault := some (.accessError s.hl .write) } := by
  rw [modifyAtHL, withByte_of_read8 _ hv, storeByte_of_unwritable _ ht]

theorem modifyAtHL_of_unreadable (hv : ∀ v, s.read8 s.hl ≠ .ok v) :
    modifyAtHL f after cost s = .next { s with fault := some (.accessError s.hl .read) } := by
  rw [modifyAtHL, withByte_of_unreadable _ hv]

end

/-- An instruction that is `modifyAtHL` with its result and what comes after the store modifies the byte there. -/
theorem modifiesAtHL_of_modifyAtHL {i : Instr} {bytes : List Byte} {cost : Nat} {result : State → Byte → Byte}
    {after : Byte → State → State} (hf : FetchedAs i bytes)
    (hexec : ∀ s, exec i s = modifyAtHL (result s) after cost s) : ModifiesAtHL i bytes cost result after := by
  refine ⟨hf, fun s => ⟨fun v t hv ht => ?written, fun v hv ht => ?unwritable, fun hv => ?unreadable⟩⟩
  all_goals rw [hexec]
  case written => exact modifyAtHL_of_write8 _ _ _ hv ht
  case unwritable => exact modifyAtHL_of_unwritable _ _ _ hv ht
  case unreadable => exact modifyAtHL_of_unreadable _ _ _ hv

/-! ### Increment and decrement (rule R169 to rule R172) -/

theorem incByte_eq (v : Byte) (c : Bool) :
    incByte v c = (v + 1, ⟨v + 1 == 0, false, decide (nibble v = 0x0F), c⟩) := by
  have hsum : BitVec.ofNat 8 (v.toNat + 1) = v + 1 := by
    rw [BitVec.ofNat_add, BitVec.ofNat_toNat, BitVec.setWidth_eq]
    rfl
  rw [incByte, hsum, nibble_eq_mod]

theorem decByte_eq (v : Byte) (c : Bool) :
    decByte v c = (v - 1, ⟨v - 1 == 0, true, decide (nibble v = 0), c⟩) := by
  have hdiff : BitVec.ofInt 8 ((v.toNat : Int) - 1) = v - 1 := by
    rw [ofInt_sub_byte, ofInt_toNat_byte]
    rfl
  rw [decByte, hdiff, nibble_eq_mod]

theorem fetchedAs_incReg (r : Reg) : FetchedAs (.incReg r) [0x04 ||| (regCode r <<< 3)] := by
  cases r <;> exact fetchedAs_of_decode rfl rfl

theorem fetchedAs_decReg (r : Reg) : FetchedAs (.decReg r) [0x05 ||| (regCode r <<< 3)] := by
  cases r <;> exact fetchedAs_of_decode rfl rfl

/-- Settles O41: the results and flags are those of `incByte_eq` and `decByte_eq`, written to the register or, in the form at
`HL`, stored before the flags (`modifiesAtHL_of_modifyAtHL`). -/
theorem incrementAndDecrement : Obligations.IncrementAndDecrement := by
  refine ⟨fun r => ⟨fetchedAs_incReg r, fun s => ?incReg⟩, fun r => ⟨fetchedAs_decReg r, fun s => ?decReg⟩,
    modifiesAtHL_of_modifyAtHL (fetchedAs_of_decode rfl rfl) fun s => ?incInd,
    modifiesAtHL_of_modifyAtHL (fetchedAs_of_decode rfl rfl) fun s => ?decInd⟩
  case incReg => rw [exec_incReg, incRegOp, incByte_eq, complete_eq]
  case decReg => rw [exec_decReg, decRegOp, decByte_eq, complete_eq]
  case incInd => simp only [exec_incIndHL, incIndOp, incByte_eq]
  case decInd => simp only [exec_decIndHL, decIndOp, decByte_eq]

/-! ### DAA and the flag operations (rule R173 to rule R176) -/

/-- The low digit's correction: Hf tells it, and after an addition the digit too. -/
def daaLow (a : Byte) (fl : Flags) : Byte := if fl.h = true ∨ (fl.n = false ∧ nibble a > 9) then 0x06 else 0

/-- The high digit's correction: Cf tells it, and after an addition the unadjusted byte too. -/
def daaHigh (a : Byte) (fl : Flags) : Byte := if fl.c = true ∨ (fl.n = false ∧ a.toNat > 0x99) then 0x60 else 0

/-- The adjusted byte, by subtracting the corrections after a subtraction and adding them after an addition. -/
def daaValue (a : Byte) (fl : Flags) : Byte :=
  if fl.n then a - daaHigh a fl - daaLow a fl else a + daaHigh a fl + daaLow a fl

/-- The model's exact integer narrows to the adjusted byte: each of its corrections narrows to that of bytes. -/
theorem daaResult_eq (a : Byte) (fl : Flags) :
    daaResult a fl =
      (daaValue a fl, ⟨daaValue a fl == 0, fl.n, false, fl.c || (!fl.n && decide (a.toNat > 0x99))⟩) := by
  obtain ⟨z, n, h, c⟩ := fl
  cases n with
  | true =>
    have hvalue : BitVec.ofInt 8 ((a.toNat : Int) - (if c then 0x60 else 0) - (if h then 0x06 else 0)) =
        daaValue a ⟨z, true, h, c⟩ := by
      rw [ofInt_sub_byte, ofInt_sub_byte, ofInt_toNat_byte, apply_ite (BitVec.ofInt 8), apply_ite (BitVec.ofInt 8)]
      simp [daaValue, daaHigh, daaLow]
    simp [daaResult, hvalue]
  | false =>
    have hvalue : BitVec.ofInt 8 ((a.toNat : Int) + (if c || decide (a.toNat > 0x99) then 0x60 else 0) +
        (if h || decide (a.toNat % 16 > 0x09) then 0x06 else 0)) = daaValue a ⟨z, false, h, c⟩ := by
      rw [BitVec.ofInt_add, BitVec.ofInt_add, ofInt_toNat_byte, apply_ite (BitVec.ofInt 8), apply_ite (BitVec.ofInt 8)]
      simp [daaValue, daaHigh, daaLow, nibble_eq_mod]
    simp [daaResult, ← hvalue]

/-- Settles O42: DAA writes the byte of `daaValue` and its flags (`daaResult_eq`); the other three write the flags their rules
name. -/
theorem adjustAndFlagOperations : Obligations.AdjustAndFlagOperations := by
  refine ⟨⟨fetchedAs_of_decode rfl rfl, fun s => ?daa⟩, ⟨fetchedAs_of_decode rfl rfl, fun s => ?cpl⟩,
    ⟨fetchedAs_of_decode rfl rfl, fun s => ?scf⟩, ⟨fetchedAs_of_decode rfl rfl, fun s => ?ccf⟩⟩
  case daa =>
    rw [exec_daa, daaOp, complete_eq, daaResult_eq]
    rfl
  case cpl => exact exec_cpl s
  case scf => exact exec_scf s
  case ccf => exact exec_ccf s

end Sys2Proof.Machine

/-! SUPPORT and SETTLED OBLIGATIONS. The 16-bit arithmetic (spec/43_alu16.md). -/

namespace Sys2Proof.Machine

open Sys2Proof.Claims

/-! ### INC rr, DEC rr and ADD HL,rr (rule R190 to rule R192) -/

/-- The integer sum narrows to the sum of words, and the low twelve bits that Hf's carry is taken from are the masked ones. -/
theorem addWords_eq (hl v : Word) (z : Bool) :
    addWords hl v z =
      (hl + v,
        ⟨z, false, decide ((hl &&& 0x0FFF).toNat + (v &&& 0x0FFF).toNat > 0x0FFF),
          decide (hl.toNat + v.toNat > 0xFFFF)⟩) := by
  have hsum : BitVec.ofNat 16 (hl.toNat + v.toNat) = hl + v := (BitVec.add_def ..).symm
  rw [addWords, hsum, toNat_and_0FFF, toNat_and_0FFF]

theorem fetchedAs_incPair (rr : Pair) : FetchedAs (.incPair rr) [0x03 ||| (pairCode rr <<< 4)] := by
  cases rr <;> exact fetchedAs_of_decode rfl rfl

theorem fetchedAs_decPair (rr : Pair) : FetchedAs (.decPair rr) [0x0B ||| (pairCode rr <<< 4)] := by
  cases rr <;> exact fetchedAs_of_decode rfl rfl

theorem fetchedAs_addHLPair (rr : Pair) : FetchedAs (.addHLPair rr) [0x09 ||| (pairCode rr <<< 4)] := by
  cases rr <;> exact fetchedAs_of_decode rfl rfl

/-- Settles O44: INC and DEC are one write of the slot, and ADD writes to the flags and to `HL` what `addWords` makes of the
two words as they stood before either write (`addWords_eq`). -/
theorem slotArithmetic : Obligations.SlotArithmetic := by
  refine ⟨fun rr => ⟨fetchedAs_incPair rr, fun s => ?inc⟩, fun rr => ⟨fetchedAs_decPair rr, fun s => ?dec⟩,
    fun rr => ⟨fetchedAs_addHLPair rr, fun s => ?add⟩⟩
  case inc => rw [exec_incPair, incPairOp, complete_eq]
  case dec => rw [exec_decPair, decPairOp, complete_eq]
  case add =>
    rw [exec_addHLPair, addHLOp, addWords_eq, complete_eq]
    rfl

end Sys2Proof.Machine

/-! SUPPORT and SETTLED OBLIGATIONS. The rotates, the shifts and the bit operations (spec/44_rotate_shift_bit.md). -/

namespace Sys2Proof.Machine

open Sys2Proof.Claims

/-! ### The integers of the rules and the shifts of bytes (rule R7, rule R205 to rule R212) -/

theorem ofNat_toNat_mul_two (v : Byte) : BitVec.ofNat 8 (v.toNat * 2) = v <<< 1 := by
  rw [BitVec.ofNat_mul, BitVec.ofNat_toNat, BitVec.setWidth_eq, BitVec.shiftLeft_eq_mul_twoPow]
  rfl

theorem ofNat_toNat_div_two (v : Byte) : BitVec.ofNat 8 (v.toNat / 2) = v >>> 1 := by
  refine BitVec.eq_of_toNat_eq ?_
  rw [BitVec.toNat_ushiftRight, BitVec.toNat_ofNat, Nat.shiftRight_one]
  omega

/-- Where a bit is clear, adding it is setting it: nothing carries. -/
theorem add_twoPow_eq_or {v : Byte} {k : Nat} (hclear : v.getLsbD k = false) (b : Bool) :
    v + (if b then BitVec.twoPow 8 k else 0) = v ||| (if b then BitVec.twoPow 8 k else 0) := by
  refine BitVec.add_eq_or_of_and_eq_zero _ _ ?_
  cases b with
  | false => exact BitVec.and_zero
  | true =>
    rw [if_pos rfl, BitVec.and_twoPow, hclear]
    rfl

/-- A shift left by one leaves bit 0 clear for the bit that comes in. -/
theorem ofNat_mul_two_add_bit (v : Byte) (b : Bool) :
    BitVec.ofNat 8 (v.toNat * 2 + bitNat b) = (v <<< 1) ||| (if b then 0x01 else 0) := by
  have hbit : BitVec.ofNat 8 (bitNat b) = if b then 0x01 else 0 := by cases b <;> rfl
  have hclear : (v <<< 1).getLsbD 0 = false := by simp
  rw [BitVec.ofNat_add, ofNat_toNat_mul_two, hbit]
  exact add_twoPow_eq_or hclear b

/-- A shift right by one leaves bit 7 clear for the bit that comes in. -/
theorem ofNat_div_two_add_bit (v : Byte) (b : Bool) :
    BitVec.ofNat 8 (v.toNat / 2 + bitNat b * 0x80) = (v >>> 1) ||| (if b then 0x80 else 0) := by
  have hbit : BitVec.ofNat 8 (bitNat b * 0x80) = if b then 0x80 else 0 := by cases b <;> rfl
  have hclear : (v >>> 1).getLsbD 7 = false := by simp
  rw [BitVec.ofNat_add, ofNat_toNat_div_two, hbit]
  exact add_twoPow_eq_or hclear b

/-- All that a rotate left by one brings round is bit 7. -/
theorem rotateLeft_one_eq (v : Byte) : v.rotateLeft 1 = (v <<< 1) ||| (if v.getLsbD 7 then 0x01 else 0) := by
  have htop : v >>> 7 = if v.getLsbD 7 then 0x01 else 0 := by
    refine BitVec.eq_of_toNat_eq ?_
    rw [BitVec.toNat_ushiftRight, BitVec.getLsbD, Nat.testBit_eq_decide_div_mod_eq, Nat.shiftRight_eq_div_pow,
      apply_ite BitVec.toNat]
    simp only [decide_eq_true_eq, BitVec.reduceToNat]
    split <;> omega
  rw [← htop]
  exact BitVec.rotateLeft_def

/-- All that a rotate right by one brings round is bit 0. -/
theorem rotateRight_one_eq (v : Byte) : v.rotateRight 1 = (v >>> 1) ||| (if v.getLsbD 0 then 0x80 else 0) := by
  have hlow : v <<< 7 = if v.getLsbD 0 then 0x80 else 0 := by
    refine BitVec.eq_of_toNat_eq ?_
    rw [BitVec.toNat_shiftLeft, BitVec.getLsbD, Nat.testBit_eq_decide_div_mod_eq, Nat.shiftLeft_eq,
      apply_ite BitVec.toNat]
    simp only [decide_eq_true_eq, BitVec.reduceToNat]
    split <;> omega
  rw [← hlow]
  exact BitVec.rotateRight_def

/-- The low nibble moved up leaves the low four bits clear for the high nibble. -/
theorem ofNat_swapped_nibbles (v : Byte) :
    BitVec.ofNat 8 (v.toNat % 16 * 16 + v.toNat / 16) = ((v &&& 0x0F) <<< 4) ||| (v >>> 4) := by
  have hv : v.toNat < 256 := v.isLt
  have hor : v.toNat % 16 * 2 ^ 4 ||| v.toNat / 2 ^ 4 = v.toNat % 16 * 2 ^ 4 + v.toNat / 2 ^ 4 := by
    rw [← Nat.shiftLeft_eq, Nat.shiftLeft_add_eq_or_of_lt (by omega)]
  have hfits : v.toNat % 16 * 2 ^ 4 % 2 ^ 8 = v.toNat % 16 * 2 ^ 4 := by omega
  refine BitVec.eq_of_toNat_eq ?_
  rw [BitVec.toNat_or, BitVec.toNat_shiftLeft, BitVec.toNat_ushiftRight, toNat_and_0F, Nat.shiftLeft_eq,
    Nat.shiftRight_eq_div_pow, hfits, hor, BitVec.toNat_ofNat]
  omega

theorem bitMask_eq_shiftLeft (b : Fin 8) : bitMask b = (1 : Byte) <<< b.val := by
  refine BitVec.eq_of_toNat_eq ?_
  rw [bitMask, BitVec.toNat_ofNat]
  exact (BitVec.toNat_twoPow 8 b.val).symm

/-! ### The results (rule R205 to rule R212) -/

section
variable (v : Byte) (c : Bool)

theorem rotValue_rlc : rotValue .rlc v c = (v.rotateLeft 1, v.getLsbD 7) := by
  rw [rotValue, ofNat_mul_two_add_bit, rotateLeft_one_eq]

theorem rotValue_rrc : rotValue .rrc v c = (v.rotateRight 1, v.getLsbD 0) := by
  rw [rotValue, ofNat_div_two_add_bit, rotateRight_one_eq]

theorem rotValue_rl : rotValue .rl v c = ((v <<< 1) ||| (if c then 0x01 else 0), v.getLsbD 7) := by
  rw [rotValue, ofNat_mul_two_add_bit]

theorem rotValue_rr : rotValue .rr v c = ((v >>> 1) ||| (if c then 0x80 else 0), v.getLsbD 0) := by
  rw [rotValue, ofNat_div_two_add_bit]

theorem rotValue_sla : rotValue .sla v c = (v <<< 1, v.getLsbD 7) := by
  rw [rotValue, ofNat_toNat_mul_two]

/-- The mask keeps bit 7 alone, which comes in from the left again. -/
theorem rotValue_sra : rotValue .sra v c = ((v >>> 1) ||| (v &&& 0x80), v.getLsbD 0) := by
  have hkept : v &&& 0x80 = if v.getLsbD 7 then 0x80 else 0 := BitVec.and_twoPow v 7
  rw [rotValue, ofNat_div_two_add_bit, hkept]

theorem rotValue_swap : rotValue .swap v c = (((v &&& 0x0F) <<< 4) ||| (v >>> 4), false) := by
  rw [rotValue, ofNat_swapped_nibbles]

theorem rotValue_srl : rotValue .srl v c = (v >>> 1, v.getLsbD 0) := by
  rw [rotValue, ofNat_toNat_div_two]

end

/-! ### The accumulator rotates (rule R200 to rule R203) -/

/-- An accumulator rotate writes its result to `A`, then the flags, of which only Cf can be set. -/
theorem rotAOp_of_rotValue {op : RotOp} {s : State} {r : Byte} {carry : Bool} (cost : Nat)
    (h : rotValue op s.a s.flagC = (r, carry)) :
    rotAOp op cost s = .next { (s.setA r).setFlags ⟨false, false, false, carry⟩ with counter := cost - 1 } := by
  rw [rotAOp, rotAResult, h, complete_eq]

/-- Settles O45: each is `rotAOp` of its operation, whose result and carry are those of `rotValue_rlc` and its like. -/
theorem accumulatorRotates : Obligations.AccumulatorRotates := by
  refine ⟨⟨fetchedAs_of_decode rfl rfl, fun s => ?rlca⟩, ⟨fetchedAs_of_decode rfl rfl, fun s => ?rrca⟩,
    ⟨fetchedAs_of_decode rfl rfl, fun s => ?rla⟩, ⟨fetchedAs_of_decode rfl rfl, fun s => ?rra⟩⟩
  case rlca => rw [exec_rlca, rotAOp_of_rotValue 1 (rotValue_rlc s.a s.flagC)]
  case rrca => rw [exec_rrca, rotAOp_of_rotValue 1 (rotValue_rrc s.a s.flagC)]
  case rla => rw [exec_rla, rotAOp_of_rotValue 1 (rotValue_rl s.a s.flagC)]
  case rra => rw [exec_rra, rotAOp_of_rotValue 1 (rotValue_rr s.a s.flagC)]

/-! ### The extended rotates and shifts (rule R204 to rule R212) -/

theorem fetchedAs_rotReg (op : RotOp) (r : Reg) : FetchedAs (.rotReg op r) [0xCB, (rotCode op <<< 3) ||| regCode r] := by
  cases op <;> cases r <;> exact fetchedAs_of_decode rfl rfl

theorem fetchedAs_rotInd (op : RotOp) : FetchedAs (.rotInd op) [0xCB, (rotCode op <<< 3) ||| 0x06] := by
  cases op <;> exact fetchedAs_of_decode rfl rfl

/-- The two forms of an operation differ in where the operand stands alone: what is left to say of one operation is its result
and its carry out. -/
theorem rotates_of_rotValue {op : RotOp} {result : Bool → Byte → Byte} {carry : Bool → Byte → Bool}
    (h : ∀ v c, rotValue op v c = (result c v, carry c v)) : Rotates op result carry := by
  have hresult : ∀ v c, rotResult op v c = (result c v, ⟨result c v == 0, false, false, carry c v⟩) := fun v c => by
    rw [rotResult, h]
  refine ⟨fun r => ⟨fetchedAs_rotReg op r, fun s => ?reg⟩, modifiesAtHL_of_modifyAtHL (fetchedAs_rotInd op) fun s => ?ind⟩
  case reg => rw [exec_rotReg, rotRegOp, hresult, complete_eq]
  case ind => simp only [exec_rotInd, rotIndOp, hresult]

/-- Settles O46: the model's integers narrow to the bytes of the rules (`rotValue_rlc` and its like), for the form of a register
and the form at `HL` alike (`rotates_of_rotValue`). -/
theorem extendedRotatesAndShifts : Obligations.ExtendedRotatesAndShifts := by
  refine ⟨?rlc, ?rrc, ?rl, ?rr, ?sla, ?sra, ?swap, ?srl⟩
  case rlc => exact rotates_of_rotValue rotValue_rlc
  case rrc => exact rotates_of_rotValue rotValue_rrc
  case rl => exact rotates_of_rotValue rotValue_rl
  case rr => exact rotates_of_rotValue rotValue_rr
  case sla => exact rotates_of_rotValue rotValue_sla
  case sra => exact rotates_of_rotValue rotValue_sra
  case swap => exact rotates_of_rotValue rotValue_swap
  case srl => exact rotates_of_rotValue rotValue_srl

/-! ### BIT, RES and SET (rule R213 to rule R215) -/

theorem fetchedAs_bitReg (b : Fin 8) (r : Reg) :
    FetchedAs (.bitReg b r) [0xCB, 0x40 ||| (indexCode b <<< 3) ||| regCode r] := by
  fin_cases b <;> cases r <;> exact fetchedAs_of_decode rfl rfl

theorem fetchedAs_resReg (b : Fin 8) (r : Reg) :
    FetchedAs (.resReg b r) [0xCB, 0x80 ||| (indexCode b <<< 3) ||| regCode r] := by
  fin_cases b <;> cases r <;> exact fetchedAs_of_decode rfl rfl

theorem fetchedAs_setReg (b : Fin 8) (r : Reg) :
    FetchedAs (.setReg b r) [0xCB, 0xC0 ||| (indexCode b <<< 3) ||| regCode r] := by
  fin_cases b <;> cases r <;> exact fetchedAs_of_decode rfl rfl

theorem fetchedAs_bitInd (b : Fin 8) : FetchedAs (.bitInd b) [0xCB, 0x46 ||| (indexCode b <<< 3)] := by
  fin_cases b <;> exact fetchedAs_of_decode rfl rfl

theorem fetchedAs_resInd (b : Fin 8) : FetchedAs (.resInd b) [0xCB, 0x86 ||| (indexCode b <<< 3)] := by
  fin_cases b <;> exact fetchedAs_of_decode rfl rfl

theorem fetchedAs_setInd (b : Fin 8) : FetchedAs (.setInd b) [0xCB, 0xC6 ||| (indexCode b <<< 3)] := by
  fin_cases b <;> exact fetchedAs_of_decode rfl rfl

theorem applyBit_eq (b : Fin 8) (v : Byte) (s : State) :
    applyBit b v s =
      if s.params.bitWritesA then (s.setFlags ⟨!v.getLsbD b.val, false, true, s.flagC⟩).setA (v &&& ((1 : Byte) <<< b.val))
      else s.setFlags ⟨!v.getLsbD b.val, false, true, s.flagC⟩ := by
  rw [applyBit, bitFlags, bitMask_eq_shiftLeft]

/-- Settles O47: both forms are `applyBit` of the byte (`applyBit_eq`), which the form at `HL` reads and never writes. -/
theorem bitTests : Obligations.BitTests := by
  intro b effect heffect
  have happly : ∀ v s, applyBit b v s = effect v s := fun v s => (applyBit_eq b v s).trans (heffect v s).symm
  refine ⟨fun r => ⟨fetchedAs_bitReg b r, fun s => ?reg⟩, ?ind⟩
  case reg => rw [exec_bitReg, bitRegOp, happly, complete_eq]
  case ind => exact loadsFrom_of_withByte (fetchedAs_bitInd b) (exec_bitInd b) fun s v => by rw [happly]

theorem resBit_eq (b : Fin 8) : resBit b = fun v => v &&& ~~~ ((1 : Byte) <<< b.val) := by
  funext v
  rw [resBit, bitMask_eq_shiftLeft]

theorem setBit_eq (b : Fin 8) : setBit b = fun v => v ||| ((1 : Byte) <<< b.val) := by
  funext v
  rw [setBit, bitMask_eq_shiftLeft]

/-- Settles O48: the byte that is written is that of `resBit_eq` or `setBit_eq`; nothing follows the write. -/
theorem bitResetAndSet : Obligations.BitResetAndSet := by
  intro b
  refine ⟨fun r => ⟨fetchedAs_resReg b r, fun s => ?resReg⟩, fun r => ⟨fetchedAs_setReg b r, fun s => ?setReg⟩,
    modifiesAtHL_of_modifyAtHL (fetchedAs_resInd b) fun s => ?resInd,
    modifiesAtHL_of_modifyAtHL (fetchedAs_setInd b) fun s => ?setInd⟩
  case resReg => rw [exec_resReg, resRegOp, resBit_eq, complete_eq]
  case setReg => rw [exec_setReg, setRegOp, setBit_eq, complete_eq]
  case resInd => rw [exec_resInd, resIndOp, resBit_eq]
  case setInd => rw [exec_setInd, setIndOp, setBit_eq]

end Sys2Proof.Machine

/-! SUPPORT and SETTLED OBLIGATIONS. The control transfers (spec/45_control.md). -/

namespace Sys2Proof.Machine

open Sys2Proof.Claims

/-! ### The bytes of the families (rule R88, rule R89) -/

theorem fetchedAs_jrCond (cc : Cond) (n : Byte) : FetchedAs (.jrCond cc n) [0x20 ||| (condCode cc <<< 3), n] := by
  cases cc <;> exact fetchedAs_of_decode rfl rfl

theorem fetchedAs_jpCond (cc : Cond) (lo hi : Byte) :
    FetchedAs (.jpCond cc (hi ++ lo)) [0xC2 ||| (condCode cc <<< 3), lo, hi] := by
  cases cc <;> exact fetchedAs_of_decode_word (c := .jpCond _) (fun _ => rfl) rfl

theorem fetchedAs_callCond (cc : Cond) (lo hi : Byte) :
    FetchedAs (.callCond cc (hi ++ lo)) [0xC4 ||| (condCode cc <<< 3), lo, hi] := by
  cases cc <;> exact fetchedAs_of_decode_word (c := .callCond _) (fun _ => rfl) rfl

theorem fetchedAs_retCond (cc : Cond) : FetchedAs (.retCond cc) [0xC0 ||| (condCode cc <<< 3)] := by
  cases cc <;> exact fetchedAs_of_decode rfl rfl

theorem fetchedAs_rst (k : Fin 8) : FetchedAs (.rst k) [0xC7 ||| (indexCode k <<< 3)] := by
  fin_cases k <;> exact fetchedAs_of_decode rfl rfl

/-! ### The conditional forms (rule R230, rule R305) -/

section
variable {cc : Cond} {taken : State → Result} {cost : Nat} {s : State}

theorem whenOp_of_cond (h : s.cond cc = true) : whenOp cc taken cost s = taken s := by
  rw [whenOp, if_pos h]

theorem whenOp_of_not_cond (h : s.cond cc = false) : whenOp cc taken cost s = .next { s with counter := cost - 1 } := by
  rw [whenOp, h, if_neg Bool.false_ne_true, complete_eq]

end

/-! ### The jumps (rule R231 to rule R235) -/

theorem jumpOp_eq (target : Word) (cost : Nat) (s : State) :
    jumpOp target cost s = .next { s with pc := target, counter := cost - 1 } := rfl

theorem whenOp_jumpOp_eq (cc : Cond) (target : Word) (costTaken costNotTaken : Nat) (s : State) :
    whenOp cc (jumpOp target costTaken) costNotTaken s =
      if s.cond cc then .next { s with pc := target, counter := costTaken - 1 }
      else .next { s with counter := costNotTaken - 1 } := rfl

/-- Settles O49: every jump is `jumpOp` (`jumpOp_eq`), the conditional ones under their condition (`whenOp_jumpOp_eq`), and the
sign-extended displacement adds to `PC` as the signed integer mod 2^16 (`add_signExtendByte`). -/
theorem jumps : Obligations.Jumps := by
  refine ⟨fun n => ⟨fetchedAs_of_decode rfl rfl, fun s => ?jr⟩, fun cc n => ⟨fetchedAs_jrCond cc n, fun s => ?jrCond⟩,
    fun lo hi => ⟨fetchedAs_of_decode_word (fun _ => rfl) rfl, fun s => ?jp⟩,
    fun cc lo hi => ⟨fetchedAs_jpCond cc lo hi, fun s => ?jpCond⟩, ⟨fetchedAs_of_decode rfl rfl, fun s => ?jpHL⟩⟩
  case jr => rw [exec_jrE8, add_signExtendByte, jumpOp_eq]
  case jrCond => rw [exec_jrCond, add_signExtendByte, whenOp_jumpOp_eq]
  case jp => rw [exec_jpA16, jumpOp_eq]
  case jpCond => rw [exec_jpCond, whenOp_jumpOp_eq]
  case jpHL => rw [exec_jpHL, jumpOp_eq]

/-! ### CALL and RST (rule R236, rule R237, rule R241) -/

/-- An instruction that at `s` is `callOp` pushes `PC` and jumps: a push is the 16-bit write at the lowered `SP`. -/
theorem pushes_of_callOp {i : Instr} {s : State} {target : Word} {cost : Nat} (hexec : exec i s = callOp target cost s) :
    Pushes i s s.pc cost (fun t => { t with pc := target }) := by
  refine ⟨fun t ht => ?written, fun e t ht => ?refused⟩
  case written =>
    simp only [hexec, callOp, State.push, ht, complete_eq]
    rfl
  case refused => simp only [hexec, callOp, State.push, ht, raise_eq]

/-- The vector `8 * k` is the opcode under the mask `0x38` (rule R89). -/
theorem rstVector_eq_masked_opcode (k : Fin 8) :
    rstVector k = ((0xC7 ||| (indexCode k <<< 3)) &&& 0x38 : Byte).setWidth 16 := by
  fin_cases k <;> rfl

/-- Settles O50: every form taken is `callOp` (`pushes_of_callOp`), and a call not taken only returns its cost
(`whenOp_of_not_cond`). -/
theorem callsAndRestarts : Obligations.CallsAndRestarts := by
  refine ⟨fun lo hi => ⟨fetchedAs_of_decode_word (fun _ => rfl) rfl, fun s => ?call⟩,
    fun cc lo hi => ⟨fetchedAs_callCond cc lo hi, fun s => ⟨fun h => ?taken, fun h => ?notTaken⟩⟩,
    fun k => ⟨fetchedAs_rst k, fun s => ?rst⟩⟩
  case call => exact pushes_of_callOp (exec_callA16 (hi ++ lo) s)
  case taken => exact pushes_of_callOp (by rw [exec_callCond, whenOp_of_cond h])
  case notTaken => rw [exec_callCond, whenOp_of_not_cond h]
  case rst =>
    rw [← rstVector_eq_masked_opcode]
    exact pushes_of_callOp (exec_rst k s)

/-! ### RET and RETI (rule R238 to rule R240) -/

/-- An instruction that at `s` is `retOp` pops `PC`: a pop is the 16-bit read at `SP`. -/
theorem pops_of_retOp {i : Instr} {s : State} {cost : Nat} (hexec : exec i s = retOp cost s) :
    Pops i s cost (fun v t => { t with pc := v }) := by
  refine ⟨fun v hv => ?read, fun e he => ?refused⟩
  case read =>
    simp only [hexec, retOp, State.pop_of_read16 hv, complete_eq]
    rfl
  case refused => simp only [hexec, retOp, State.pop_of_read16_error he, raise_eq]

/-- Settles O51: every form taken is `retOp` (`pops_of_retOp`), RETI the one of RET, and a return not taken only returns its cost
(`whenOp_of_not_cond`). -/
theorem returns : Obligations.Returns := by
  refine ⟨⟨fetchedAs_of_decode rfl rfl, fun s => ?ret⟩, ⟨fetchedAs_of_decode rfl rfl, fun s => ⟨?reti, ?retiIsRet⟩⟩,
    fun cc => ⟨fetchedAs_retCond cc, fun s => ⟨fun h => ?taken, fun h => ?notTaken⟩⟩⟩
  case ret => exact pops_of_retOp (exec_ret s)
  case reti => exact pops_of_retOp (exec_reti s)
  case retiIsRet => rw [exec_reti, exec_ret]
  case taken => exact pops_of_retOp (by rw [exec_retCond, whenOp_of_cond h])
  case notTaken => rw [exec_retCond, whenOp_of_not_cond h]

end Sys2Proof.Machine

/-! SUPPORT and SETTLED OBLIGATIONS. The system instructions (spec/46_system.md). -/

namespace Sys2Proof.Machine

open Sys2Proof.Claims

section
variable {i : Instr} {bytes : List Byte} {cost : Nat}

/-- An instruction that is `idleOp` has no effect beyond its fetch. -/
theorem completes_of_idleOp (hf : FetchedAs i bytes) (hexec : ∀ s, exec i s = idleOp cost s) :
    Completes i bytes cost id :=
  ⟨hf, fun s => by rw [hexec, idleOp, complete_eq, id_eq]⟩

/-- An instruction that is `haltOp` sets `halted` and does no more. -/
theorem completes_of_haltOp (hf : FetchedAs i bytes) (hexec : ∀ s, exec i s = haltOp cost s) :
    Completes i bytes cost (fun s => { s with halted := true }) :=
  ⟨hf, fun s => by rw [hexec, haltOp, complete_eq]⟩

end

/-- A halted engine fetches nothing: its cost, 1, leaves the counter at 0 (rule R253, rule R303). -/
theorem executeInstruction_of_halted {s : State} (h : s.halted = true) :
    executeInstruction s = .next { s with counter := 0 } := by
  rw [executeInstruction, if_pos h, complete_eq]

/-- Settles O52: NOP, EI and DI are `idleOp` (`completes_of_idleOp`), HALT and STOP `haltOp` (`completes_of_haltOp`), STOP with
any second byte, and a halted engine fetches nothing (`executeInstruction_of_halted`). -/
theorem systemInstructions : Obligations.SystemInstructions := by
  refine ⟨?nop, ?ei, ?di, ?halt, fun x => ?stop, fun s h => executeInstruction_of_halted h⟩
  case nop => exact completes_of_idleOp (fetchedAs_of_decode rfl rfl) exec_nop
  case ei => exact completes_of_idleOp (fetchedAs_of_decode rfl rfl) exec_ei
  case di => exact completes_of_idleOp (fetchedAs_of_decode rfl rfl) exec_di
  case halt => exact completes_of_haltOp (fetchedAs_of_decode rfl rfl) exec_halt
  case stop => exact completes_of_haltOp (fetchedAs_of_decode rfl rfl) (exec_stop x)

end Sys2Proof.Machine

/-! SUPPORT and SETTLED OBLIGATIONS. The faulted machine, the decode errors and the load checks of a cartridge
(spec/60_exceptions.md). -/

namespace Sys2Proof.Machine

/-! ### A faulted machine (rule R274) -/

/-- A state that a step keeps is kept by any number of ticks. -/
theorem ticks_of_step_self {s : State} (h : step s = .next s) (n : Nat) : ticks n s = .next s := by
  have htick : hostThenTick s = .next s := h
  induction n with
  | zero => rfl
  | succ n ih => simp only [ticks, htick, ih]

section
variable {s : State} {e : Fault} (h : s.fault = some e)
include h

theorem State.afterHost_of_fault : s.afterHost = s := by
  rw [State.afterHost, State.hostMayWrite, h]
  rfl

theorem tick_of_fault : tick s = .next s := by
  rw [tick, h]

theorem step_of_fault : step s = .next s := by
  rw [step_eq_tick, State.afterHost_of_fault h, tick_of_fault h]

theorem State.outcome_of_fault : s.outcome = .faulted e := by
  rw [State.outcome, h]

end

/-- Settles O16: neither the host's move nor the tick does anything once a fault is recorded (`step_of_fault`). -/
theorem faultedMachineNeverChanges : Obligations.FaultedMachineNeverChanges :=
  fun _ _ h => ⟨step_of_fault h, ticks_of_step_self (step_of_fault h), State.outcome_of_fault h⟩

/-! ### The decode errors (rule R84, rule R271) -/

/-- The two ways in which an opcode is not in `MAPPED_PRIMARY`: the default table has no row for it, or the build leaves it
out (rule R91, rule R92). -/
theorem mapsPrimary_eq_false_iff {p : Params} {op : Byte} (hop : op ≠ 0xCB) :
    p.mapsPrimary op = false ↔ op ∈ unmappedPrimary ∨ p.leavesOutPrimary op = true := by
  rw [Params.mapsPrimary, bne_iff_ne.mpr hop, Bool.true_and, Bool.and_eq_false_iff, Bool.not_eq_false', Bool.not_eq_false',
    List.contains_iff_mem]

/-- An unmapped opcode decodes to an instruction of one byte whose meaning raises its decode error. -/
theorem decodePrimary_of_unmapped :
    ∀ op ∈ unmappedPrimary, ∃ i, decodePrimary op = .plain i ∧ ∀ s, exec i s = unmappedOpcode op s := by
  simp only [unmappedPrimary, List.forall_mem_cons]
  refine ⟨⟨.unmappedD3, ?_⟩, ⟨.unmappedDB, ?_⟩, ⟨.unmappedDD, ?_⟩, ⟨.unmappedE3, ?_⟩, ⟨.unmappedE4, ?_⟩, ⟨.unmappedEB, ?_⟩,
    ⟨.unmappedEC, ?_⟩, ⟨.unmappedED, ?_⟩, ⟨.unmappedF4, ?_⟩, ⟨.unmappedFC, ?_⟩, ⟨.unmappedFD, ?_⟩, by simp⟩ <;>
  exact ⟨rfl, fun _ => rfl⟩

/-- At the state past its one byte an unmapped opcode's error names the byte's own address. -/
theorem unmappedOpcode_setPC_succ (op : Byte) (s : State) :
    unmappedOpcode op (s.setPC (s.pc + 1)) =
      .next { s with pc := s.pc + 1, fault := some (.decodeError .primary op s.pc) } := by
  rw [unmappedOpcode, raise_eq, State.setPC_pc, BitVec.add_sub_cancel]
  rfl

section
variable {s : State} {op ext : Byte}

theorem fetchInstr_of_leftOut (hread : s.read8 s.pc = .ok op) (hout : s.params.leavesOutPrimary op = true) :
    fetchInstr s = .raised (.decodeError .primary op s.pc) (s.setPC (s.pc + 1)) := by
  simp only [fetchInstr, fetch8_of_read8 hread, hout, if_true]

theorem fetchInstr_of_plain {i : Instr} (hread : s.read8 s.pc = .ok op) (hmap : s.params.leavesOutPrimary op = false)
    (ho : decodePrimary op = .plain i) : fetchInstr s = .got i (s.setPC (s.pc + 1)) := by
  simp only [fetchInstr, fetch8_of_read8 hread, hmap, ho, Bool.false_eq_true, if_false]

theorem fetchExtended_of_leftOut (pc0 : Word) (hread : s.read8 s.pc = .ok ext)
    (hout : s.params.leavesOutExtended ext = true) :
    fetchExtended pc0 s = .raised (.decodeError .extended ext pc0) (s.setPC (s.pc + 1)) := by
  simp only [fetchExtended, fetch8_of_read8 hread, hout, if_true]

theorem executeInstruction_of_got {t : State} {i : Instr} (hh : s.halted = false) (h : fetchInstr s = .got i t) :
    executeInstruction s = exec i t := by
  simp only [executeInstruction, hh, h, Bool.false_eq_true, if_false]

/-- An opcode outside `MAPPED_PRIMARY`: the fetch raises for one that the build leaves out, the meaning for an unmapped one,
and both record the same error at the same state. -/
theorem executeInstruction_of_not_mapsPrimary (hh : s.halted = false) (hread : s.read8 s.pc = .ok op) (hop : op ≠ 0xCB)
    (h : s.params.mapsPrimary op = false) :
    executeInstruction s = .next { s with pc := s.pc + 1, fault := some (.decodeError .primary op s.pc) } := by
  cases hmap : s.params.leavesOutPrimary op with
  | true => exact executeInstruction_of_raised hh (fetchInstr_of_leftOut hread hmap)
  | false =>
    have hmem : op ∈ unmappedPrimary := by simpa [hmap] using (mapsPrimary_eq_false_iff hop).mp h
    obtain ⟨i, ho, hexec⟩ := decodePrimary_of_unmapped op hmem
    rw [executeInstruction_of_got hh (fetchInstr_of_plain hread hmap ho), hexec, unmappedOpcode_setPC_succ]

/-- The byte 0xCB is tested for before the table, so that no build leaves it out (rule R84). -/
theorem leavesOutPrimary_CB (p : Params) : p.leavesOutPrimary 0xCB = false := rfl

/-- An extended opcode outside `MAPPED_CB`: the error names the address of the byte 0xCB, and `PC` is past both bytes. -/
theorem executeInstruction_of_not_mapsExtended (hh : s.halted = false) (hopening : s.read8 s.pc = .ok 0xCB)
    (hread : s.read8 (s.pc + 1) = .ok ext) (h : s.params.mapsExtended ext = false) :
    executeInstruction s = .next { s with pc := s.pc + 2, fault := some (.decodeError .extended ext s.pc) } := by
  have hout : s.params.leavesOutExtended ext = true := (Bool.not_eq_false' _).mp h
  have htwo : s.pc + 2 = s.pc + 1 + 1 := (BitVec.add_assoc s.pc 1 1).symm
  have hfetch := (fetchInstr_of_prefixed hopening (leavesOutPrimary_CB s.params) rfl).trans
    (fetchExtended_of_leftOut (s := s.setPC (s.pc + 1)) s.pc hread hout)
  rw [executeInstruction_of_raised hh hfetch, htwo]
  rfl

end

/-- The default build leaves nothing out, so that its opcodes outside `MAPPED_PRIMARY` are those of rule R91. -/
theorem default_mapsPrimary_eq_false_iff {op : Byte} (hop : op ≠ 0xCB) :
    Params.default.mapsPrimary op = false ↔ op ∈ unmappedPrimary := by
  have hout : Params.default.leavesOutPrimary op = false := Bool.and_false _
  simp [mapsPrimary_eq_false_iff hop, hout]

/-- Settles O21: what an opcode outside its table raises, in the primary table (`executeInstruction_of_not_mapsPrimary`) and in
the extended one (`executeInstruction_of_not_mapsExtended`), and the tables of the default build. -/
theorem unmappedOpcodesRaiseDecodeErrors : Obligations.UnmappedOpcodesRaiseDecodeErrors := by
  refine ⟨?primary, ?extended, ?defaultPrimary, ?defaultExtended⟩
  case primary => exact fun _ _ => executeInstruction_of_not_mapsPrimary
  case extended => exact fun _ _ => executeInstruction_of_not_mapsExtended
  case defaultPrimary => exact fun _ => default_mapsPrimary_eq_false_iff
  case defaultExtended => exact fun _ => rfl

/-! ### The size codes (rule R281, rule R282) -/

theorem romSizeOfCode_of_le {c : Byte} (h : c.toNat ≤ 8) : romSizeOfCode c = some (32768 <<< c.toNat) := by
  rw [romSizeOfCode, if_pos h, Nat.shiftLeft_eq]

theorem romSizeOfCode_of_other {c : Byte} (h : c.toNat > 8) (h₁ : c ≠ 0x52) (h₂ : c ≠ 0x53) (h₃ : c ≠ 0x54) :
    romSizeOfCode c = none := by
  rw [romSizeOfCode, if_neg (Nat.not_le.mpr h), if_neg h₁, if_neg h₂, if_neg h₃]

/-- The codes with a RAM size are the positions in the table of rule R282. -/
theorem ramSizeOfCode_eq_getElem? (c : Byte) :
    ramSizeOfCode c = ([0, 2, 8, 32, 128, 64].map (fun n => n * 1024))[c.toNat]? := by
  revert c
  decide

/-! ### The load checks, one answer for each (rule R283, rule R285) -/

theorem headerByte_of_getElem? {image : List Byte} {k : Nat} {b : Byte} (h : image[k]? = some b) :
    headerByte image k = b := by
  rw [headerByte, List.getD_eq_getElem?_getD, h, Option.getD_some]

section
variable {image : List Byte}

theorem checkCartridge_of_short (h : image.length < 0x0150) : checkCartridge image = .error .cartridgeSizeMismatch := by
  rw [checkCartridge, if_pos h]

section
variable (hlong : ¬ image.length < 0x0150)
include hlong

theorem checkCartridge_of_no_romSize (hrom : romSizeOfCode (headerByte image 0x0148) = none) :
    checkCartridge image = .error .invalidRomSizeCode := by
  rw [checkCartridge, if_neg hlong, hrom]

section
variable {size : Nat} (hrom : romSizeOfCode (headerByte image 0x0148) = some size)
include hrom

theorem checkCartridge_of_wrong_size (hsize : image.length ≠ size) :
    checkCartridge image = .error .cartridgeSizeMismatch := by
  simp only [checkCartridge, if_neg hlong, hrom, if_pos hsize]

section
variable (hsize : image.length = size)
include hsize

theorem checkCartridge_of_no_ramSize (hram : ramSizeOfCode (headerByte image 0x0149) = none) :
    checkCartridge image = .error .invalidRamSizeCode := by
  simp only [checkCartridge, if_neg hlong, hrom, if_neg (not_not_intro hsize), hram]

section
variable {ram : Nat} (hram : ramSizeOfCode (headerByte image 0x0149) = some ram)
include hram

theorem checkCartridge_of_controller (hcontroller : headerByte image 0x0147 ≠ 0x00) :
    checkCartridge image = .error .unsupportedController := by
  simp only [checkCartridge, if_neg hlong, hrom, if_neg (not_not_intro hsize), hram, if_pos hcontroller]

theorem checkCartridge_of_valid (hcontroller : headerByte image 0x0147 = 0x00) :
    checkCartridge image = .ok { romSize := size, ramSize := ram, title := (image.drop 0x0134).take 16 } := by
  simp only [checkCartridge, if_neg hlong, hrom, if_neg (not_not_intro hsize), hram, if_neg (not_not_intro hcontroller)]

end
end
end
end

theorem System.loadCartridge_of_ok {c : Cartridge} (h : checkCartridge image = .ok c) (sys : System) :
    sys.loadCartridge image = .ok { sys with cartridge := some c } := by
  rw [System.loadCartridge, h]

theorem System.loadCartridge_of_error {e : LoadError} (h : checkCartridge image = .error e) (sys : System) :
    sys.loadCartridge image = .error e := by
  rw [System.loadCartridge, h]

end

/-- Settles O58: the checks answer one after another (`checkCartridge_of_short` to `checkCartridge_of_valid`), and the load
follows their answer (`System.loadCartridge_of_ok`, `System.loadCartridge_of_error`). -/
theorem cartridgeChecksInOrder : Obligations.CartridgeChecksInOrder := by
  refine ⟨fun k hk => ?romCode, rfl, rfl, rfl, fun _ => romSizeOfCode_of_other, ramSizeOfCode_eq_getElem?, fun image =>
    ⟨fun _ => System.loadCartridge_of_error, checkCartridge_of_short,
      fun controller romCode ramCode hlong h₁ h₂ h₃ => ?checks⟩⟩
  case romCode =>
    have hcode : (BitVec.ofNat 8 k).toNat = k := by rw [BitVec.toNat_ofNat]; omega
    rw [romSizeOfCode_of_le (hcode.symm ▸ hk), hcode]
  case checks =>
    obtain rfl := headerByte_of_getElem? h₁
    obtain rfl := headerByte_of_getElem? h₂
    obtain rfl := headerByte_of_getElem? h₃
    have hlong : ¬ image.length < 0x0150 := Nat.not_lt.mpr hlong
    refine ⟨checkCartridge_of_no_romSize hlong, fun size hrom => ⟨checkCartridge_of_wrong_size hlong hrom,
      checkCartridge_of_no_ramSize hlong hrom, fun ram hsize hram => ⟨checkCartridge_of_controller hlong hrom hsize hram,
        fun hcontroller => ?valid⟩⟩⟩
    have hvalid := checkCartridge_of_valid hlong hrom hsize hram hcontroller
    exact ⟨_, hvalid, rfl, rfl, rfl, System.loadCartridge_of_ok hvalid⟩

end Sys2Proof.Machine

/-! SUPPORT and SETTLED OBLIGATIONS. Decoding and encoding are inverse to each other (spec/30_encoding.md). -/

namespace Sys2Proof

/-! ### From an instruction to its bytes and back -/

section
open Laws.RoundTrip

/-- The decoder computes an instruction from its own bytes; an immediate word comes back from the two bytes it was cut into
(`of_word`). -/
theorem decode_encode_append (i : Instr) (rest : List Byte) : decode (encode i ++ rest) = .ok (i, rest) := by
  cases i
  case ldBCD16 w => exact ldBCD16 w rest
  case ldDED16 w => exact ldDED16 w rest
  case ldHLD16 w => exact ldHLD16 w rest
  case ldSPD16 w => exact ldSPD16 w rest
  case ldIndA16SP w => exact ldIndA16SP w rest
  case ldIndA16A w => exact ldIndA16A w rest
  case ldAIndA16 w => exact ldAIndA16 w rest
  case jpA16 w => exact jpA16 w rest
  case jpNZA16 w => exact jpNZA16 w rest
  case jpZA16 w => exact jpZA16 w rest
  case jpNCA16 w => exact jpNCA16 w rest
  case jpCA16 w => exact jpCA16 w rest
  case callA16 w => exact callA16 w rest
  case callNZA16 w => exact callNZA16 w rest
  case callZA16 w => exact callZA16 w rest
  case callNCA16 w => exact callNCA16 w rest
  case callCA16 w => exact callCA16 w rest
  all_goals rfl

end

/-- Settles O2: every instruction's bytes decode to it, one row of the table after another (`decode_encode_append`). -/
theorem decodeOfEncodeIsTheInstruction : Obligations.DecodeOfEncodeIsTheInstruction := decode_encode_append

/-! ### From bytes to an instruction and back -/

/-- What an opening makes of any immediates encodes as the opcode and those immediates. -/
def Opening.EncodesAs (op n : Byte) (w : Word) : Opening → Prop
  | .plain i => encode i = [op]
  | .imm8 f => encode (f n) = [op, n]
  | .imm16 f => encode (f w) = [op, immLow w, immHigh w]
  | .prefixed => op = 0xCB

/-- The opcode byte with the fields `x`, `y` and `z` (rule R80). -/
def opcodeOfFields (x y z : Nat) : Byte := BitVec.ofNat 8 (64 * x + 8 * y + z)

theorem opcodeOfFields_fields {op : Byte} {x : Nat} (hx : op.toNat / 64 = x) :
    opcodeOfFields x (op.toNat / 8 % 8) (op.toNat % 8) = op := by
  have hlt : op.toNat < 256 := op.isLt
  refine BitVec.eq_of_toNat_eq ?_
  rw [opcodeOfFields, BitVec.toNat_ofNat]
  omega

section
variable (n : Byte) (w : Word) (y z : Fin 8)

theorem decodeQuadrant0_encodesAs : (decodeQuadrant0 y z).EncodesAs (opcodeOfFields 0 y z) n w := by
  fin_cases y <;> fin_cases z <;> rfl

theorem encode_decodeQuadrant1 : encode (decodeQuadrant1 y z) = [opcodeOfFields 1 y z] := by
  revert y z
  decide

theorem encode_decodeQuadrant2 : encode (decodeQuadrant2 y z) = [opcodeOfFields 2 y z] := by
  revert y z
  decide

theorem decodeQuadrant3_encodesAs : (decodeQuadrant3 y z).EncodesAs (opcodeOfFields 3 y z) n w := by
  fin_cases y <;> fin_cases z <;> rfl

end

theorem encode_decodeExtended : ∀ ext : Byte, encode (decodeExtended ext) = [0xCB, ext] := by decide

theorem decodePrimary_encodesAs (op n : Byte) (w : Word) : (decodePrimary op).EncodesAs op n w := by
  have hy : op.toNat / 8 % 8 < 8 := Nat.mod_lt _ (by decide)
  have hz : op.toNat % 8 < 8 := Nat.mod_lt _ (by decide)
  unfold decodePrimary
  split
  case h_1 hx => simpa only [opcodeOfFields_fields hx] using decodeQuadrant0_encodesAs n w ⟨_, hy⟩ ⟨_, hz⟩
  case h_2 hx => simpa only [Opening.EncodesAs, opcodeOfFields_fields hx] using encode_decodeQuadrant1 ⟨_, hy⟩ ⟨_, hz⟩
  case h_3 hx => simpa only [Opening.EncodesAs, opcodeOfFields_fields hx] using encode_decodeQuadrant2 ⟨_, hy⟩ ⟨_, hz⟩
  case h_4 h₀ h₁ h₂ =>
    have hlt : op.toNat < 256 := op.isLt
    have hx : op.toNat / 64 = 3 := by simp only [imp_false] at h₀ h₁ h₂; omega
    simpa only [opcodeOfFields_fields hx] using decodeQuadrant3_encodesAs n w ⟨_, hy⟩ ⟨_, hz⟩

@[simp] theorem immLow_immWord (lo hi : Byte) : immLow (immWord lo hi) = lo := Machine.loByte_joinBytes hi lo

@[simp] theorem immHigh_immWord (lo hi : Byte) : immHigh (immWord lo hi) = hi := Machine.hiByte_joinBytes hi lo

/-- Settles O3: what an opening makes of the bytes after it encodes as the opcode and those bytes
(`decodePrimary_encodesAs`). Of the decoder's seven rows three reject; the others are the four openings. -/
theorem encodeOfDecodeIsTheBytes : Obligations.EncodeOfDecodeIsTheBytes := by
  intro bytes rest i h
  cases bytes with
  | nil => cases h
  | cons op tail =>
    have henc := decodePrimary_encodesAs op
    unfold decode at h
    dsimp only at h
    split at h <;> cases h
    case h_1 ho =>
      have hplain : encode i = [op] := by simpa only [ho, Opening.EncodesAs] using henc 0 0
      rw [hplain]
      rfl
    case h_2 f n ho =>
      have himm : encode (f n) = [op, n] := by simpa only [ho, Opening.EncodesAs] using henc n 0
      rw [himm]
      rfl
    case h_4 f lo hi ho =>
      have himm : encode (f (immWord lo hi)) = [op, lo, hi] := by
        simpa only [ho, Opening.EncodesAs, immLow_immWord, immHigh_immWord] using henc 0 (immWord lo hi)
      rw [himm]
      rfl
    case h_6 ext ho =>
      rw [encode_decodeExtended, decodePrimary_prefixed ho]
      rfl

end Sys2Proof

/-! SUPPORT and SETTLED OBLIGATIONS. What every instruction and every step keeps: the invariant of the reachable states, the
construction data, `halted` and a recorded fault (spec/10_state.md, spec/60_exceptions.md section 1). -/

namespace Sys2Proof.Machine

/-! ### The invariant (rule R25, rule R31, rule R253, rule R273, rule R309) -/

/-- Quiet writes keep the invariant: they touch no field of it but `F` and video memory, which they keep. -/
theorem State.Sound.of_quiet {s u : State} (hs : s.Sound) (h : Quiet s u) : u.Sound where
  flagsLow := h.flagsLow hs.flagsLow
  counterRange := h.counter ▸ hs.counterRange
  faultedIdle := h.fault ▸ h.counter ▸ hs.faultedIdle
  haltedIdle := h.halted ▸ h.counter ▸ hs.haltedIdle
  haltedUnfaulted := h.halted ▸ h.fault ▸ hs.haltedUnfaulted
  bootWf := h.boot ▸ hs.bootWf
  vramWf := h.vramWf hs.vramWf

/-- A machine that is neither faulted nor halted may have any counter in range (rule R31). -/
theorem State.Sound.with_counter {s : State} (hs : s.Sound) (hf : s.fault = none) (hh : s.halted = false) {n : Nat}
    (hn : n ≤ 5) : State.Sound { s with counter := n } :=
  { hs with
    counterRange := hn
    faultedIdle := by simp [hf]
    haltedIdle := by simp [hh] }

/-- An idle machine may be faulted, unless it is halted. -/
theorem State.Sound.with_fault {s : State} (hs : s.Sound) (hc : s.counter = 0) (hh : s.halted = false) (e : Fault) :
    State.Sound { s with fault := some e } :=
  { hs with
    faultedIdle := fun _ => hc
    haltedUnfaulted := by simp [hh] }

/-- An unfaulted machine may be halted and idle. -/
theorem State.Sound.with_halted {s : State} (hs : s.Sound) (hf : s.fault = none) :
    State.Sound { s with halted := true, counter := 0 } :=
  { hs with
    counterRange := Nat.zero_le 5
    faultedIdle := fun _ => rfl
    haltedIdle := fun _ => rfl
    haltedUnfaulted := fun _ => hf }

section
variable {s t : State} (hs : s.Sound)
include hs

/-- An instruction runs on an idle machine that is neither faulted nor halted, and keeps the invariant in each of its three
ends. -/
theorem exec_keeps_sound {i : Instr} (hf : s.fault = none) (hh : s.halted = false) (hc : s.counter = 0)
    (h : exec i s = .next t) : t.Sound := by
  obtain ⟨_, rfl⟩ | ⟨_, u, cost, hq, _, hcost, rfl⟩ | ⟨_, u, e, hq, rfl⟩ := exec_cases h
  · exact hs.with_halted hf
  · exact (hs.of_quiet hq).with_counter (hq.fault.trans hf) (hq.halted.trans hh) (by omega)
  · exact (hs.of_quiet hq).with_fault (hq.counter.trans hc) (hq.halted.trans hh) e

theorem executeInstruction_keeps_sound (hf : s.fault = none) (hc : s.counter = 0) (h : executeInstruction s = .next t) :
    t.Sound := by
  obtain ⟨hh, rfl⟩ | ⟨hh, pc, e, _, rfl⟩ | ⟨hh, pc, i, _, hexec⟩ := executeInstruction_cases h
  · rw [← hc]
    exact hs
  · exact (hs.of_quiet (Quiet.setPC s pc)).with_fault hc hh e
  · exact exec_keeps_sound (hs.of_quiet (Quiet.setPC s pc)) hf hh hc hexec

theorem tick_keeps_sound (h : tick s = .next t) : t.Sound := by
  obtain ⟨_, rfl⟩ | ⟨hf, hc, rfl⟩ | ⟨hf, hc, hexec⟩ := tick_cases h
  · exact hs
  · have hh : s.halted = false := by
      by_contra hh
      exact Nat.ne_of_gt hc (hs.haltedIdle (by simpa using hh))
    have hrange := hs.counterRange
    exact hs.with_counter hf hh (by omega)
  · exact executeInstruction_keeps_sound hs hf hc hexec

/-- The host's move writes inside the block of video memory (`applyVramWrites_wf`). -/
theorem State.Sound.afterHost : s.afterHost.Sound := by
  unfold State.afterHost hostMove
  split
  · split
    · exact hs
    · exact { hs with vramWf := applyVramWrites_wf _ hs.vramWf }
  · exact hs

theorem step_keeps_sound (h : step s = .next t) : t.Sound :=
  tick_keeps_sound hs.afterHost (step_eq_tick s ▸ h)

end

/-- Settles O14: the host's move keeps the invariant (`State.Sound.afterHost`), and so does a tick in each of its three cases
(`tick_keeps_sound`), of which an instruction has three ends (`exec_keeps_sound`). -/
theorem stepKeepsTheInvariant : Obligations.StepKeepsTheInvariant := fun _ _ => step_keeps_sound

/-- Settles O13: every field of the invariant is computed from the reset state. -/
theorem resetMeetsTheInvariant : Obligations.ResetMeetsTheInvariant := by
  constructor <;> decide

/-! ### The construction data (rule R35, rule R75) -/

theorem exec_keeps_construction {i : Instr} {s t : State} (h : exec i s = .next t) :
    t.boot = s.boot ∧ t.params = s.params ∧ t.hostWrites = s.hostWrites := by
  obtain ⟨_, rfl⟩ | ⟨_, u, cost, hq, _, _, rfl⟩ | ⟨_, u, e, hq, rfl⟩ := exec_cases h
  · exact ⟨rfl, rfl, rfl⟩
  · exact ⟨hq.boot, hq.params, hq.hostWrites⟩
  · exact ⟨hq.boot, hq.params, hq.hostWrites⟩

theorem executeInstruction_keeps_construction {s t : State} (h : executeInstruction s = .next t) :
    t.boot = s.boot ∧ t.params = s.params := by
  obtain ⟨_, rfl⟩ | ⟨_, pc, e, _, rfl⟩ | ⟨_, pc, i, _, hexec⟩ := executeInstruction_cases h
  · exact ⟨rfl, rfl⟩
  · exact ⟨rfl, rfl⟩
  · obtain ⟨hboot, hparams, _⟩ := exec_keeps_construction hexec
    exact ⟨hboot, hparams⟩

theorem tick_keeps_construction {s t : State} (h : tick s = .next t) : t.boot = s.boot ∧ t.params = s.params := by
  obtain ⟨_, rfl⟩ | ⟨_, _, rfl⟩ | ⟨_, _, hexec⟩ := tick_cases h
  · exact ⟨rfl, rfl⟩
  · exact ⟨rfl, rfl⟩
  · exact executeInstruction_keeps_construction hexec

theorem step_keeps_construction {s t : State} (h : step s = .next t) : t.boot = s.boot ∧ t.params = s.params := by
  rw [step_eq_tick, s.afterHost_eq] at h
  have hkept := tick_keeps_construction h
  exact hkept

/-- Settles O24: every instruction's writes are quiet (`exec_cases`), and nothing else that a step does touches the boot image
or the parameters (`tick_cases`, `executeInstruction_cases`). -/
theorem constructionDataNeverChanges : Obligations.ConstructionDataNeverChanges :=
  ⟨fun _ _ _ => exec_keeps_construction, fun _ _ => step_keeps_construction⟩

/-! ### `halted` and a recorded fault (rule R32, rule R33) -/

theorem Instr.halts_iff (i : Instr) : Instr.halts i = true ↔ i = .halt ∨ ∃ x, i = .stop x := by
  constructor
  · intro h
    unfold Instr.halts at h
    split at h
    · exact .inl rfl
    · exact .inr ⟨_, rfl⟩
    · cases h
  · rintro (rfl | ⟨x, rfl⟩) <;> rfl

theorem exec_halted_iff {i : Instr} {s t : State} (h : exec i s = .next t) :
    t.halted = true ↔ s.halted = true ∨ Instr.halts i = true := by
  obtain ⟨hi, rfl⟩ | ⟨hi, u, cost, hq, _, _, rfl⟩ | ⟨hi, u, e, hq, rfl⟩ := exec_cases h
  · simp [hi]
  · simp [hi, hq.halted]
  · simp [hi, hq.halted]

theorem tick_keeps_halted {s t : State} (h : tick s = .next t) (hs : s.halted = true) : t.halted = true := by
  obtain ⟨_, rfl⟩ | ⟨_, _, rfl⟩ | ⟨_, _, hexec⟩ := tick_cases h
  · exact hs
  · exact hs
  · rw [executeInstruction_of_halted hs] at hexec
    cases hexec
    exact hs

theorem step_keeps_halted {s t : State} (h : step s = .next t) (hs : s.halted = true) : t.halted = true := by
  rw [step_eq_tick, s.afterHost_eq] at h
  exact tick_keeps_halted h hs

theorem step_keeps_fault {s t : State} {e : Fault} (h : step s = .next t) (hs : s.fault = some e) : t.fault = some e := by
  rw [step_of_fault hs] at h
  cases h
  exact hs

/-- Settles O30: of an instruction's three ends only that of HALT and STOP touches `halted` (`exec_halted_iff`); a tick of a
halted machine fetches nothing (`tick_keeps_halted`), and a step of a faulted one does nothing (`step_of_fault`). -/
theorem haltedAndFaultAreSticky : Obligations.HaltedAndFaultAreSticky := by
  refine ⟨fun i s t h => ?_, fun _ _ => step_keeps_halted, fun _ _ _ => step_keeps_fault⟩
  rw [exec_halted_iff h, Instr.halts_iff]

/-! ### The counter after an instruction (rule R304) -/

/-- Settles O56: a completed instruction leaves its cost, 1 to 6, less 1 (`exec_cases`); HALT and STOP leave 0, and a raise
records a fault. -/
theorem costsAreOneToSix : Obligations.CostsAreOneToSix := by
  intro i s t _ h ht
  obtain ⟨_, rfl⟩ | ⟨_, u, cost, _, _, hcost, rfl⟩ | ⟨_, u, e, _, rfl⟩ := exec_cases h
  · exact Nat.zero_le 5
  · exact Nat.sub_le_of_le_add hcost
  · cases ht

end Sys2Proof.Machine

/-! SUPPORT and SETTLED OBLIGATIONS. What every instruction leaves unchanged: registers, flags, `SP`, `PC` and memory, in one
frame over all instructions (spec/10_state.md, spec/20_memory.md). -/

namespace Sys2Proof.Machine

open Sys2Proof.Claims

/-! ### Footprints -/

/-- What may change: the byte registers, `F`, `SP`, `PC`, and the addresses that may be stored to. -/
structure Footprint where
  reg : Reg → Prop
  flags : Prop
  sp : Prop
  pc : Prop
  store : Word → Prop

/-- What the rules let an instruction change at a state (rule R26, rule R27, rule R29, rule R65). -/
def footprint (i : Instr) (s : State) : Footprint where
  reg := WritesReg s i
  flags := WritesFlags i
  sp := WritesSP s i
  pc := Transfers s i
  store := StoresAt s i

/-- `u` differs from `s` nowhere outside the footprint. An address outside it is one that the router sends to another byte than
each address that may be stored to. -/
structure Within (p : Footprint) (s u : State) : Prop where
  reg : ∀ r, ¬p.reg r → u.reg r = s.reg r
  flags : ¬p.flags → u.f = s.f
  sp : ¬p.sp → u.sp = s.sp
  pc : ¬p.pc → u.pc = s.pc
  read8 : ∀ a, (∀ x, p.store x → route a ≠ route x) → u.read8 a = s.read8 a

section
variable {p : Footprint} {s t u : State}

theorem Within.refl (p : Footprint) (s : State) : Within p s s :=
  ⟨fun _ _ => rfl, fun _ => rfl, fun _ => rfl, fun _ => rfl, fun _ _ => rfl⟩

theorem Within.trans (h₁ : Within p s t) (h₂ : Within p t u) : Within p s u where
  reg r hr := (h₂.reg r hr).trans (h₁.reg r hr)
  flags hf := (h₂.flags hf).trans (h₁.flags hf)
  sp hsp := (h₂.sp hsp).trans (h₁.sp hsp)
  pc hpc := (h₂.pc hpc).trans (h₁.pc hpc)
  read8 a ha := (h₂.read8 a ha).trans (h₁.read8 a ha)

/-! ### The writes of a state -/

theorem Within.setReg {r : Reg} {v : Byte} (hr : p.reg r) (h : Within p s u) : Within p s (u.setReg r v) :=
  h.trans
    { reg := fun q hq => State.reg_setReg_other u (fun heq : q = r => hq (heq ▸ hr)) v
      flags := fun _ => State.setReg_f u r v
      sp := fun _ => State.setReg_sp u r v
      pc := fun _ => State.setReg_pc u r v
      read8 := fun a _ => State.read8_congr (State.setReg_boot u r v) (State.setReg_vram u r v) a }

theorem Within.setA {v : Byte} (hr : p.reg .a) (h : Within p s u) : Within p s (u.setA v) := Within.setReg hr h

theorem Within.setFlags {fl : Flags} (hf : p.flags) (h : Within p s u) : Within p s (u.setFlags fl) :=
  h.trans
    { reg := fun r _ => State.reg_setFlags u r fl
      flags := fun hn => absurd hf hn
      sp := fun _ => rfl
      pc := fun _ => rfl
      read8 := fun _ _ => rfl }

theorem Within.setPC {v : Word} (hpc : p.pc) (h : Within p s u) : Within p s (u.setPC v) :=
  h.trans
    { reg := fun r _ => State.reg_setPC u r v
      flags := fun _ => rfl
      sp := fun _ => rfl
      pc := fun hn => absurd hpc hn
      read8 := fun _ _ => rfl }

theorem Within.setSP {v : Word} (hsp : p.sp) (h : Within p s u) : Within p s (u.setSP v) :=
  h.trans
    { reg := fun r _ => State.reg_setSP u r v
      flags := fun _ => rfl
      sp := fun hn => absurd hsp hn
      pc := fun _ => rfl
      read8 := fun _ _ => rfl }

/-- A slot holds two of the registers, or is `SP`. -/
theorem State.reg_setPair_other (u : State) {rr : Pair} {r : Reg} (hr : ¬InPair rr r) (v : Word) :
    (u.setPair rr v).reg r = u.reg r := by
  revert hr
  cases rr <;> cases r <;> simp [InPair, State.setPair, State.reg]

theorem Within.setPair {rr : Pair} {v : Word} (hr : ∀ r, InPair rr r → p.reg r) (hsp : rr = .sp → p.sp)
    (h : Within p s u) : Within p s (u.setPair rr v) :=
  h.trans
    { reg := fun r hn => State.reg_setPair_other u (fun hin => hn (hr r hin)) v
      flags := fun _ => State.setPair_f u rr v
      sp := fun hn => by
        cases rr with
        | sp => exact absurd (hsp rfl) hn
        | _ => rfl
      pc := fun _ => State.setPair_pc u rr v
      read8 := fun a _ => State.read8_congr (State.setPair_boot u rr v) (State.setPair_vram u rr v) a }

theorem Within.setHL {v : Word} (hr : ∀ r, r = .h ∨ r = .l → p.reg r) (h : Within p s u) : Within p s (u.setHL v) :=
  Within.setPair (rr := .hl) hr (fun heq => by cases heq) h

theorem State.reg_setAF_other (u : State) {r : Reg} (hr : r ≠ .a) (v : Word) : (u.setAF v).reg r = u.reg r := by
  cases r with
  | a => exact absurd rfl hr
  | _ => rfl

theorem Within.setAF {v : Word} (ha : p.reg .a) (hf : p.flags) (h : Within p s u) : Within p s (u.setAF v) :=
  h.trans
    { reg := fun r hn => State.reg_setAF_other u (fun heq : r = .a => hn (heq ▸ ha)) v
      flags := fun hn => absurd hf hn
      sp := fun _ => rfl
      pc := fun _ => rfl
      read8 := fun _ _ => rfl }

theorem Within.setStackPair {qq : StackPair} {v : Word} (hr : ∀ r, InStackPair qq r → p.reg r) (hf : qq = .af → p.flags)
    (h : Within p s u) : Within p s (u.setStackPair qq v) := by
  cases qq with
  | bc => exact Within.setPair (rr := .bc) hr (fun heq => by cases heq) h
  | de => exact Within.setPair (rr := .de) hr (fun heq => by cases heq) h
  | hl => exact Within.setPair (rr := .hl) hr (fun heq => by cases heq) h
  | af => exact Within.setAF (hr .a rfl) (hf rfl) h

theorem State.reg_of_write8 {x : Word} {v : Byte} (hw : u.write8 x v = .ok t) (r : Reg) : t.reg r = u.reg r := by
  rw [State.write8_ok_eq hw]
  cases r <;> rfl

theorem Within.write8 {x : Word} {v : Byte} (hx : p.store x) (h : Within p s u) (hw : u.write8 x v = .ok t) :
    Within p s t :=
  h.trans
    { reg := fun r _ => State.reg_of_write8 hw r
      flags := fun _ => by rw [State.write8_ok_eq hw]; rfl
      sp := fun _ => by rw [State.write8_ok_eq hw]
      pc := fun _ => by rw [State.write8_ok_eq hw]
      read8 := fun a ha => State.read8_write8_other hw (ha x hx) }

section
variable {x v : Word} (hx : p.store x) (hx' : p.store (x + 1)) (h : Within p s u)
include hx h

theorem Within.write16_error {e : Fault} (hw : u.write16 x v = .error (e, t)) : Within p s t := by
  obtain ⟨_, rfl⟩ | ⟨_, hlow⟩ := State.write16_error hw
  · exact h
  · exact h.write8 hx hlow

include hx'

theorem Within.write16 (hw : u.write16 x v = .ok t) : Within p s t := by
  obtain ⟨m, hlow, hhigh⟩ := State.write16_ok hw
  exact (h.write8 hx hlow).write8 hx' hhigh

end

section
variable {v : Word} (hsp : p.sp) (h : Within p s u)
include hsp h

theorem Within.pop (hw : u.pop = .ok (v, t)) : Within p s t := by
  obtain ⟨_, rfl⟩ := State.pop_ok hw
  exact h.setSP hsp

variable (hx : ∀ x, x = u.sp - 2 ∨ x = u.sp - 2 + 1 → p.store x)
include hx

theorem Within.push (hw : u.push v = .ok t) : Within p s t :=
  (h.setSP hsp).write16 (hx _ (.inl rfl)) (hx _ (.inr rfl)) hw

theorem Within.push_error {e : Fault} (hw : u.push v = .error (e, t)) : Within p s t :=
  (h.setSP hsp).write16_error (hx _ (.inl rfl)) hw

end

/-! ### The ends of an instruction -/

/-- Every next state that the result answers differs from `s` nowhere outside the footprint. -/
def Confined (p : Footprint) (s : State) (r : Result) : Prop := ∀ t, r = .next t → Within p s t

theorem Confined.complete {cost : Nat} (h : Within p s u) : Confined p s (complete cost u) := by
  rintro _ ⟨⟩
  exact ⟨h.reg, h.flags, h.sp, h.pc, h.read8⟩

theorem Confined.raise {e : Fault} (h : Within p s u) : Confined p s (raise e u) := by
  rintro _ ⟨⟩
  exact ⟨h.reg, h.flags, h.sp, h.pc, h.read8⟩

/-- No part of a footprint is in `halted`. -/
theorem Confined.halt {cost : Nat} : Confined p s (haltOp cost s) :=
  .complete ⟨fun _ _ => rfl, fun _ => rfl, fun _ => rfl, fun _ => rfl, fun _ _ => rfl⟩

theorem Confined.withByte {a : Word} {k : Byte → State → Result} (h : ∀ v, Confined p s (k v s)) :
    Confined p s (withByte a k s) := by
  unfold Machine.withByte
  split
  · exact h _
  · exact .raise (.refl p s)

theorem Confined.storeByte {x : Word} {v : Byte} {k : State → Result} (hx : p.store x)
    (h : ∀ t, Within p s t → Confined p s (k t)) : Confined p s (storeByte x v k s) := by
  unfold Machine.storeByte
  split
  · next t ht => exact h t ((Within.refl p s).write8 hx ht)
  · exact .raise (.refl p s)

theorem Confined.modifyAtHL {f : Byte → Byte} {after : Byte → State → State} {cost : Nat} (hx : p.store s.hl)
    (h : ∀ v t, Within p s t → Within p s (after v t)) : Confined p s (modifyAtHL f after cost s) :=
  .withByte fun v => .storeByte hx fun t ht => .complete (h v t ht)

theorem Confined.load {dst : Reg} {a : Word} {cost : Nat} (hr : p.reg dst) : Confined p s (loadOp dst a cost s) :=
  .withByte fun _ => .complete ((Within.refl p s).setReg hr)

theorem Confined.store {x : Word} {v : Byte} {cost : Nat} (hx : p.store x) : Confined p s (storeOp x v cost s) :=
  .storeByte hx fun _ ht => .complete ht

theorem Confined.loadStep {delta : Word} {cost : Nat} (hr : ∀ r, r = .a ∨ r = .h ∨ r = .l → p.reg r) :
    Confined p s (loadStepOp delta cost s) :=
  .withByte fun _ => .complete (((Within.refl p s).setA (hr .a (.inl rfl))).setHL fun r h => hr r (.inr h))

theorem Confined.storeStep {delta : Word} {cost : Nat} (hx : p.store s.hl) (hr : ∀ r, r = .h ∨ r = .l → p.reg r) :
    Confined p s (storeStepOp delta cost s) :=
  .storeByte hx fun _ ht => .complete (ht.setHL hr)

theorem Confined.when {cc : Cond} {taken : State → Result} {cost : Nat} (h : s.cond cc = true → Confined p s (taken s)) :
    Confined p s (whenOp cc taken cost s) := by
  unfold whenOp
  split
  · next hcond => exact h hcond
  · exact .complete (.refl p s)

theorem Confined.jump {target : Word} {cost : Nat} (hpc : p.pc) : Confined p s (jumpOp target cost s) :=
  .complete ((Within.refl p s).setPC hpc)

theorem Confined.pushPair {qq : StackPair} {cost : Nat} (hsp : p.sp)
    (hx : ∀ x, x = s.sp - 2 ∨ x = s.sp - 2 + 1 → p.store x) : Confined p s (pushOp qq cost s) := by
  unfold pushOp
  split
  · next t ht => exact .complete (.push hsp (.refl p s) hx ht)
  · next e t ht => exact .raise (.push_error hsp (.refl p s) hx ht)

theorem Confined.call {target : Word} {cost : Nat} (hsp : p.sp) (hpc : p.pc)
    (hx : ∀ x, x = s.sp - 2 ∨ x = s.sp - 2 + 1 → p.store x) : Confined p s (callOp target cost s) := by
  unfold callOp
  split
  · next t ht => exact .complete (.setPC hpc (.push hsp (.refl p s) hx ht))
  · next e t ht => exact .raise (.push_error hsp (.refl p s) hx ht)

theorem Confined.popPair {qq : StackPair} {cost : Nat} (hsp : p.sp) (hr : ∀ r, InStackPair qq r → p.reg r)
    (hf : qq = .af → p.flags) : Confined p s (popOp qq cost s) := by
  unfold popOp
  split
  · next v t ht => exact .complete (.setStackPair hr hf (.pop hsp (.refl p s) ht))
  · exact .raise (.refl p s)

theorem Confined.ret {cost : Nat} (hsp : p.sp) (hpc : p.pc) : Confined p s (retOp cost s) := by
  unfold retOp
  split
  · next v t ht => exact .complete (.setPC hpc (.pop hsp (.refl p s) ht))
  · exact .raise (.refl p s)

theorem Within.applyAlu {op : AluOp} {v : Byte} (hf : p.flags) (ha : op ≠ .cp → p.reg .a) :
    Within p s (applyAlu op v s) := by
  cases op with
  | cp => exact (Within.refl p s).setFlags hf
  | _ => exact ((Within.refl p s).setA (ha (by decide))).setFlags hf

theorem Within.applyBit {b : Fin 8} {v : Byte} (hf : p.flags) (ha : s.params.bitWritesA = true → p.reg .a) :
    Within p s (applyBit b v s) := by
  unfold Machine.applyBit
  split
  · next hbuild => exact ((Within.refl p s).setFlags hf).setA (ha hbuild)
  · exact (Within.refl p s).setFlags hf

end

/-! ### Every instruction -/

/-- Every instruction keeps to its footprint, family by family: each write its meaning makes is one that the rules name. -/
theorem exec_confined (i : Instr) (s : State) : Confined (footprint i s) s (exec i s) := by
  induction i using Instr.byFamily with
  | h_ldRegReg dst src => rw [exec_ldRegReg]; exact .complete (.setReg (.ldRegReg dst src) (.refl _ s))
  | h_ldRegInd dst => rw [exec_ldRegInd]; exact .load (.ldRegInd dst)
  | h_ldIndReg src => rw [exec_ldIndReg]; exact .store (.ldIndReg src)
  | h_ldRegImm dst n => rw [exec_ldRegImm]; exact .complete (.setReg (.ldRegImm dst n) (.refl _ s))
  | h_ldPairImm rr w =>
    rw [exec_ldPairImm]
    exact .complete (.setPair (.ldPairImm rr w) (by rintro rfl; exact .ldSPD16 w) (.refl _ s))
  | h_pushPair qq => rw [exec_pushPair]; exact .pushPair (.push qq) (.push qq)
  | h_popPair qq => rw [exec_popPair]; exact .popPair (.pop qq) (.popPair qq) (by rintro rfl; exact .popAF)
  | h_aluReg op r => rw [exec_aluReg]; exact .complete (.applyAlu (.aluReg op r) (.aluReg op r))
  | h_aluInd op => rw [exec_aluInd]; exact .withByte fun _ => .complete (.applyAlu (.aluInd op) (.aluInd op))
  | h_aluImm op n => rw [exec_aluImm]; exact .complete (.applyAlu (.aluImm op n) (.aluImm op n))
  | h_incReg dst => rw [exec_incReg]; exact .complete (.setFlags (.incReg dst) (.setReg (.incReg dst) (.refl _ s)))
  | h_decReg dst => rw [exec_decReg]; exact .complete (.setFlags (.decReg dst) (.setReg (.decReg dst) (.refl _ s)))
  | h_incPair rr =>
    rw [exec_incPair]
    exact .complete (.setPair (.incPair rr) (by rintro rfl; exact .incSP) (.refl _ s))
  | h_decPair rr =>
    rw [exec_decPair]
    exact .complete (.setPair (.decPair rr) (by rintro rfl; exact .decSP) (.refl _ s))
  | h_addHLPair rr =>
    rw [exec_addHLPair]
    exact .complete (.setHL (.addHLPair rr) (.setFlags (.addHLPair rr) (.refl _ s)))
  | h_rotReg op r => rw [exec_rotReg]; exact .complete (.setFlags (.rotReg op r) (.setReg (.rotReg op r) (.refl _ s)))
  | h_rotInd op => rw [exec_rotInd]; exact .modifyAtHL (.rotInd op) fun _ _ ht => ht.setFlags (.rotInd op)
  | h_bitReg b r => rw [exec_bitReg]; exact .complete (.applyBit (.bitReg b r) (.bitReg b r))
  | h_bitInd b => rw [exec_bitInd]; exact .withByte fun _ => .complete (.applyBit (.bitInd b) (.bitInd b))
  | h_resReg b r => rw [exec_resReg]; exact .complete (.setReg (.resReg b r) (.refl _ s))
  | h_resInd b => rw [exec_resInd]; exact .modifyAtHL (.resInd b) fun _ _ ht => ht
  | h_setReg b r => rw [exec_setReg]; exact .complete (.setReg (.setReg b r) (.refl _ s))
  | h_setInd b => rw [exec_setInd]; exact .modifyAtHL (.setInd b) fun _ _ ht => ht
  | h_jrCond cc e => rw [exec_jrCond]; exact .when fun h => .jump (.jrCond cc e h)
  | h_jpCond cc w => rw [exec_jpCond]; exact .when fun h => .jump (.jpCond cc w h)
  | h_callCond cc w =>
    rw [exec_callCond]
    exact .when fun h => .call (.callCond cc w h) (.callCond cc w h) fun x => .callCond cc w x h
  | h_retCond cc => rw [exec_retCond]; exact .when fun h => .ret (.retCond cc h) (.retCond cc h)
  | h_rst k => rw [exec_rst]; exact .call (.rst k) (.rst k) (.rst k)
  | h_ldIndA16SP w =>
    rw [exec_ldIndA16SP, storeSPOp]
    split
    · next t ht => exact .complete (.write16 (.ldIndA16SP w w (.inl rfl)) (.ldIndA16SP w _ (.inr rfl)) (.refl _ s) ht)
    · next e t ht => exact .raise (.write16_error (.ldIndA16SP w w (.inl rfl)) (.refl _ s) ht)
  | h_ldAIndBC => rw [exec_ldAIndBC]; exact .load .ldAIndBC
  | h_ldAIndDE => rw [exec_ldAIndDE]; exact .load .ldAIndDE
  | h_ldAIndA16 w => rw [exec_ldAIndA16]; exact .load (.ldAIndA16 w)
  | h_ldhAIndA8 n => rw [exec_ldhAIndA8]; exact .load (.ldhAIndA8 n)
  | h_ldAIndC => rw [exec_ldAIndC]; exact .load .ldAIndC
  | h_ldAIndHLInc => rw [exec_ldAIndHLInc]; exact .loadStep .ldAIndHLInc
  | h_ldAIndHLDec => rw [exec_ldAIndHLDec]; exact .loadStep .ldAIndHLDec
  | h_ldIndBCA => rw [exec_ldIndBCA]; exact .store .ldIndBCA
  | h_ldIndDEA => rw [exec_ldIndDEA]; exact .store .ldIndDEA
  | h_ldIndA16A w => rw [exec_ldIndA16A]; exact .store (.ldIndA16A w)
  | h_ldhIndA8A n => rw [exec_ldhIndA8A]; exact .store (.ldhIndA8A n)
  | h_ldIndCA => rw [exec_ldIndCA]; exact .store .ldIndCA
  | h_ldIndHLD8 n => rw [exec_ldIndHLD8]; exact .store (.ldIndHLD8 n)
  | h_ldIndHLIncA => rw [exec_ldIndHLIncA]; exact .storeStep .ldIndHLIncA .ldIndHLIncA
  | h_ldIndHLDecA => rw [exec_ldIndHLDecA]; exact .storeStep .ldIndHLDecA .ldIndHLDecA
  | h_ldSPHL => rw [exec_ldSPHL]; exact .complete (.setSP .ldSPHL (.refl _ s))
  | h_ldHLSPE8 e => rw [exec_ldHLSPE8]; exact .complete (.setHL (.ldHLSPE8 e) (.setFlags (.ldHLSPE8 e) (.refl _ s)))
  | h_addSPE8 e => rw [exec_addSPE8]; exact .complete (.setSP (.addSPE8 e) (.setFlags (.addSPE8 e) (.refl _ s)))
  | h_incIndHL => rw [exec_incIndHL]; exact .modifyAtHL .incIndHL fun _ _ ht => ht.setFlags .incIndHL
  | h_decIndHL => rw [exec_decIndHL]; exact .modifyAtHL .decIndHL fun _ _ ht => ht.setFlags .decIndHL
  | h_daa => rw [exec_daa]; exact .complete (.setFlags .daa (.setA .daa (.refl _ s)))
  | h_cpl => rw [exec_cpl]; exact .complete (.setFlags .cpl (.setA .cpl (.refl _ s)))
  | h_scf => rw [exec_scf]; exact .complete (.setFlags .scf (.refl _ s))
  | h_ccf => rw [exec_ccf]; exact .complete (.setFlags .ccf (.refl _ s))
  | h_rlca => rw [exec_rlca]; exact .complete (.setFlags .rlca (.setA .rlca (.refl _ s)))
  | h_rrca => rw [exec_rrca]; exact .complete (.setFlags .rrca (.setA .rrca (.refl _ s)))
  | h_rla => rw [exec_rla]; exact .complete (.setFlags .rla (.setA .rla (.refl _ s)))
  | h_rra => rw [exec_rra]; exact .complete (.setFlags .rra (.setA .rra (.refl _ s)))
  | h_jrE8 e => rw [exec_jrE8]; exact .jump (.jr e)
  | h_jpA16 w => rw [exec_jpA16]; exact .jump (.jp w)
  | h_jpHL => rw [exec_jpHL]; exact .jump .jpHL
  | h_callA16 w => rw [exec_callA16]; exact .call (.call w) (.call w) (.call w)
  | h_ret => rw [exec_ret]; exact .ret .ret .ret
  | h_reti => rw [exec_reti]; exact .ret .reti .reti
  | h_halt | h_stop => exact .halt
  | h_nop | h_di | h_ei => exact .complete (.refl _ s)
  | h_unmappedD3 | h_unmappedDB | h_unmappedDD | h_unmappedE3 | h_unmappedE4 | h_unmappedEB | h_unmappedEC | h_unmappedED
  | h_unmappedF4 | h_unmappedFC | h_unmappedFD => exact .raise (.refl _ s)

/-- Settles O25: the stores an instruction makes are those of its footprint (`exec_confined`), and a store leaves every byte but
its own (`State.read8_write8_other`). -/
theorem memoryChangesOnlyAtStoredBytes : Obligations.MemoryChangesOnlyAtStoredBytes :=
  fun i s t a h => (exec_confined i s t h).read8 a

/-- Settles O26: the registers an instruction writes are those of its footprint (`exec_confined`). -/
theorem registersChangeOnlyWhereNamed : Obligations.RegistersChangeOnlyWhereNamed :=
  fun i s t r h => (exec_confined i s t h).reg r

/-- Settles O27: an instruction writes `SP` only where its footprint has it (`exec_confined`). -/
theorem stackPointerChangesOnlyWhereNamed : Obligations.StackPointerChangesOnlyWhereNamed :=
  fun i s t h => (exec_confined i s t h).sp

/-- Settles O28: an instruction writes `F` only where its footprint has it (`exec_confined`). -/
theorem flagByteChangesOnlyWhereNamed : Obligations.FlagByteChangesOnlyWhereNamed :=
  fun i s t h => (exec_confined i s t h).flags

/-- Settles O29: an instruction writes `PC` only where its footprint has it (`exec_confined`). -/
theorem programCounterChangesOnlyInTransfers : Obligations.ProgramCounterChangesOnlyInTransfers :=
  fun i s t h => (exec_confined i s t h).pc

end Sys2Proof.Machine

/-! SUPPORT and SETTLED OBLIGATIONS. The step, the ticks and the host's side (spec/30_encoding.md section 3,
spec/60_exceptions.md section 4, spec/70_reset_and_hazards.md section 2). -/

namespace Sys2Proof.Machine

/-! ### Every state has a next one (rule R273, rule R303) -/

theorem executeInstruction_next (s : State) : ∃ t, executeInstruction s = .next t := by
  unfold executeInstruction
  split
  · exact ⟨_, complete_eq 1 s⟩
  · split
    · exact ⟨_, raise_eq _ _⟩
    · exact exec_next _ _

theorem tick_next (s : State) : ∃ t, tick s = .next t := by
  unfold tick
  split
  · exact ⟨_, rfl⟩
  · split
    · exact ⟨_, rfl⟩
    · exact executeInstruction_next s

/-- Settles O15: a tick does nothing, counts down, or runs an instruction or a fetch that raises, and each answers a next state
(`tick_next`, `exec_next`). -/
theorem everyStateHasANextState : Obligations.EveryStateHasANextState := fun s => step_eq_tick s ▸ tick_next s.afterHost

/-! ### The cases of a tick (rule R84, rule R303) -/

section
variable {s : State} (hf : s.fault = none)
include hf

theorem tick_of_counter_pos (hc : 0 < s.counter) : tick s = .next { s with counter := s.counter - 1 } := by
  simp only [tick, hf, gt_iff_lt, hc, if_true]

theorem tick_of_idle (hc : s.counter = 0) : tick s = executeInstruction s := by
  simp only [tick, hf, hc, gt_iff_lt, Nat.lt_irrefl, if_false]

end

/-- Settles O18: one lemma for each case of the tick (`tick_of_fault`, `tick_of_counter_pos`, `tick_of_idle`) and one for the
halted engine (`executeInstruction_of_halted`). -/
theorem tickHasItsThreeCases : Obligations.TickHasItsThreeCases :=
  fun _ => ⟨fun _ => tick_of_fault, tick_of_counter_pos, tick_of_idle, executeInstruction_of_halted⟩

/-! ### The host's move (rule R289) -/

theorem State.afterHost_of_running {s : State} (hf : s.fault = none) (hh : s.halted = false) : s.afterHost = hostMove s := by
  simp [State.afterHost, State.hostMayWrite, hf, hh]

theorem State.afterHost_of_halted {s : State} (hh : s.halted = true) : s.afterHost = s := by
  simp [State.afterHost, State.hostMayWrite, hh]

theorem step_of_running {s : State} (hf : s.fault = none) (hh : s.halted = false) : step s = tick (hostMove s) := by
  rw [step_eq_tick, State.afterHost_of_running hf hh]

theorem hostMove_of_nil {s : State} (h : s.hostWrites = []) : hostMove s = s := by
  simp only [hostMove, h]

theorem hostMove_of_cons {s : State} {ws : List VramWrite} {rest : List (List VramWrite)} (h : s.hostWrites = ws :: rest) :
    hostMove s = { s with vram := applyVramWrites ws s.vram, hostWrites := rest } := by
  simp only [hostMove, h]

/-- Settles O19: the host's move takes the first batch and makes its writes in order (`hostMove_of_cons`), so that a batch's
first write may as well be made before the rest. -/
theorem hostWritesLandBetweenTicks : Obligations.HostWritesLandBetweenTicks := by
  intro s hf hh
  rw [step_of_running hf hh]
  refine ⟨fun h => ?nothing, fun rest h => ?emptyBatch, fun w ws rest h => ?firstWrite⟩
  case nothing => rw [hostMove_of_nil h]
  case emptyBatch => rw [hostMove_of_cons h]; rfl
  case firstWrite =>
    rw [hostMove_of_cons h]
    exact (step_of_running
      (s := { s with vram := Memory.writeCell s.vram w.offset.toNat w.value, hostWrites := ws :: rest }) hf hh).symm

/-! ### A halted machine (rule R253, rule R309) -/

theorem step_of_halted {s : State} (hh : s.halted = true) (hf : s.fault = none) (hc : s.counter = 0) : step s = .next s := by
  rw [step_eq_tick, State.afterHost_of_halted hh, tick_of_idle hf hc, executeInstruction_of_halted hh, ← hc]

/-- Settles O17: the host's move no longer counts, and the engine only sets the counter to the 0 it has (`step_of_halted`). -/
theorem haltedMachineNeverChanges : Obligations.HaltedMachineNeverChanges :=
  fun _ hh hf hc => ⟨step_of_halted hh hf hc, ticks_of_step_self (step_of_halted hh hf hc)⟩

/-! ### The instruction that a step runs (rule R82, rule R84) -/

section
variable {s : State}

theorem fetchImm8_of_read8 (f : Byte → Instr) {n : Byte} (hn : s.read8 s.pc = .ok n) :
    fetchImm8 f s = .got (f n) (s.setPC (s.pc + 1)) := by
  simp only [fetchImm8, fetch8_of_read8 hn]

theorem fetchImm16_of_read8 (f : Word → Instr) {lo hi : Byte} (hlo : s.read8 s.pc = .ok lo)
    (hhi : s.read8 (s.pc + 1) = .ok hi) : fetchImm16 f s = .got (f (immWord lo hi)) (s.setPC (s.pc + 2)) := by
  have hsecond : fetch8 (s.setPC (s.pc + 1)) = .ok (hi, s.setPC (s.pc + 1 + 1)) := fetch8_of_read8 hhi
  have htwo : s.pc + 2 = s.pc + 1 + 1 := (BitVec.add_assoc s.pc 1 1).symm
  simp only [fetchImm16, fetch8_of_read8 hlo, hsecond, htwo]

theorem fetchExtended_of_read8 (pc0 : Word) {ext : Byte} (hext : s.read8 s.pc = .ok ext)
    (hmap : s.params.leavesOutExtended ext = false) :
    fetchExtended pc0 s = .got (decodeExtended ext) (s.setPC (s.pc + 1)) := by
  simp only [fetchExtended, fetch8_of_read8 hext, hmap, Bool.false_eq_true, if_false]

end

/-- A well-formed instruction's bytes at `PC` are fetched as it, whichever of the four openings it has. -/
theorem fetchInstr_of_bytes {s : State} {bytes : List Byte} {i : Instr} (hd : decode bytes = .ok (i, []))
    (hwf : WellFormed s.params i = true)
    (hread : ∀ k b, bytes[k]? = some b → s.read8 (s.pc + BitVec.ofNat 16 k) = .ok b) :
    fetchInstr s = .got i (s.setPC (s.pc + BitVec.ofNat 16 bytes.length)) := by
  have henc : encode i = bytes := by simpa using (encodeOfDecodeIsTheBytes bytes [] i hd).symm
  obtain ⟨op, rest, rfl, hopening⟩ := decode_cases hd
  obtain ⟨op', rest', henc', hmap, hextMap⟩ := WellFormed.bytes hwf
  cases henc'.symm.trans henc
  have hop : s.read8 s.pc = .ok op := (BitVec.add_zero s.pc) ▸ hread 0 op rfl
  have htwo : s.pc + 1 + 1 = s.pc + BitVec.ofNat 16 2 := BitVec.add_assoc s.pc 1 1
  have hthree : s.pc + 1 + 2 = s.pc + BitVec.ofNat 16 3 := BitVec.add_assoc s.pc 1 2
  obtain ⟨ho, rfl⟩ | ⟨f, n, ho, rfl, rfl⟩ | ⟨f, lo, hi, ho, rfl, rfl⟩ | ⟨ext, ho, rfl, rfl, rfl⟩ := hopening
  · exact fetchInstr_of_plain hop hmap ho
  · rw [fetchInstr_of_imm8 hop hmap ho, fetchImm8_of_read8 (s := s.setPC (s.pc + 1)) f (hread 1 n rfl)]
    exact congrArg (Fetched.got _) (congrArg s.setPC htwo)
  · have hhi : s.read8 (s.pc + 1 + 1) = .ok hi := htwo ▸ hread 2 hi rfl
    rw [fetchInstr_of_imm16 hop hmap ho, fetchImm16_of_read8 (s := s.setPC (s.pc + 1)) f (hread 1 lo rfl) hhi]
    exact congrArg (Fetched.got _) (congrArg s.setPC hthree)
  · obtain ⟨ext', tail, hrest, hext⟩ := hextMap rfl
    cases hrest
    rw [fetchInstr_of_prefixed hop hmap ho, fetchExtended_of_read8 (s := s.setPC (s.pc + 1)) s.pc (hread 1 ext rfl) hext]
    exact congrArg (Fetched.got _) (congrArg s.setPC htwo)

/-- Settles O20: on a running machine the step's tick runs after the host's move (`step_of_running`), which leaves it running and
idle, and the bytes are fetched as the instruction (`fetchInstr_of_bytes`). -/
theorem stepRunsTheDecodedInstruction : Obligations.StepRunsTheDecodedInstruction := by
  intro s m bytes i hm hf hh hc hd hwf hread
  have hframe := s.afterHost_eq
  rw [State.afterHost_of_running hf hh, ← hm] at hframe
  have hmf : m.fault = none := hframe ▸ hf
  have hmh : m.halted = false := hframe ▸ hh
  have hmc : m.counter = 0 := hframe ▸ hc
  have hmwf : WellFormed m.params i = true := hframe ▸ hwf
  rw [step_of_running hf hh, ← hm, tick_of_idle hmf hmc, executeInstruction_of_got hmh (fetchInstr_of_bytes hd hmwf hread)]

/-! ### Many ticks (rule R303, rule R306) -/

theorem step_next (s : State) : ∃ t, step s = .next t := everyStateHasANextState s

theorem ticks_succ_of_step {s t : State} (h : step s = .next t) (n : Nat) : ticks (n + 1) s = ticks n t := by
  have h' : hostThenTick s = .next t := h
  simp only [ticks, h']

theorem ticks_next (n : Nat) (s : State) : ∃ t, ticks n s = .next t := by
  induction n generalizing s with
  | zero => exact ⟨s, rfl⟩
  | succ n ih =>
    obtain ⟨t, ht⟩ := step_next s
    exact ticks_succ_of_step ht n ▸ ih t

theorem ticks_add {m : Nat} {s t : State} (h : ticks m s = .next t) (n : Nat) : ticks (m + n) s = ticks n t := by
  induction m generalizing s with
  | zero =>
    cases h
    rw [Nat.zero_add]
  | succ m ih =>
    obtain ⟨u, hu⟩ := step_next s
    rw [ticks_succ_of_step hu] at h
    rw [Nat.succ_add_eq_add_succ, Nat.add_succ, ticks_succ_of_step hu, ih h]

theorem ticks_keeps_params {n : Nat} {s t : State} (h : ticks n s = .next t) : t.params = s.params := by
  induction n generalizing s with
  | zero =>
    cases h
    rfl
  | succ n ih =>
    obtain ⟨u, hu⟩ := step_next s
    rw [ticks_succ_of_step hu] at h
    exact (ih h).trans (step_keeps_construction hu).2

theorem State.afterHost_of_no_writes {s : State} (h : s.hostWrites = []) : s.afterHost = s := by
  rw [State.afterHost, hostMove_of_nil h, ite_self]

theorem step_of_counter_pos {s : State} (hf : s.fault = none) (hw : s.hostWrites = []) (hc : 0 < s.counter) :
    step s = .next { s with counter := s.counter - 1 } := by
  rw [step_eq_tick, State.afterHost_of_no_writes hw, tick_of_counter_pos hf hc]

/-- Settles O54, by induction on the number of ticks: each one counts down (`step_of_counter_pos`). -/
theorem countdownChangesNothingElse : Obligations.CountdownChangesNothingElse := by
  intro s n hf hw hn
  induction n generalizing s with
  | zero => rfl
  | succ n ih =>
    have hrest := ih { s with counter := s.counter - 1 } hf hw (Nat.le_sub_one_of_lt hn)
    rw [ticks_succ_of_step (step_of_counter_pos hf hw (Nat.zero_lt_of_lt hn)), hrest, Nat.sub_sub, Nat.add_comm 1 n]

/-! ### The Timing Driver (rule R287, rule R288) -/

section
variable (hz : Nat) (d : Driver) (t u : Nat)

theorem Driver.wf_iff : d.wf = true ↔ d.acc < 10 ^ 9 ∧ d.spare < 4 := by
  rw [Driver.wf, Bool.and_eq_true, decide_eq_true_iff, decide_eq_true_iff]
  rfl

theorem Driver.after_wf : (d.after hz t).wf = true :=
  (d.after hz t).wf_iff.mpr ⟨Nat.mod_lt _ (by decide), Nat.mod_lt _ (by decide)⟩

/-- A call with no time drives nothing and leaves a driver that is in its bounds as it is. -/
theorem Driver.cycles_zero (h : d.wf = true) : d.cycles hz 0 = 0 := by
  obtain ⟨hacc, hspare⟩ := d.wf_iff.mp h
  simp only [Driver.cycles, Driver.available, ticksPerCycle]
  omega

theorem Driver.after_zero (h : d.wf = true) : d.after hz 0 = d := by
  obtain ⟨hacc, hspare⟩ := d.wf_iff.mp h
  obtain ⟨acc, spare⟩ := d
  simp only [Driver.after, Driver.available, ticksPerCycle, Driver.mk.injEq] at hacc hspare ⊢
  omega

/-- Two calls drive the cycles that one with the sum of their times drives: what the first call leaves over, of a base tick and
of a cycle, the second takes up. -/
theorem Driver.cycles_add : d.cycles hz (t + u) = d.cycles hz t + (d.after hz t).cycles hz u := by
  simp only [Driver.cycles, Driver.after, Driver.available, ticksPerCycle, Nat.add_mul]
  omega

theorem Driver.after_add : d.after hz (t + u) = (d.after hz t).after hz u := by
  simp only [Driver.after, Driver.available, ticksPerCycle, Nat.add_mul, Driver.mk.injEq]
  omega

theorem Driver.cycles_start : Driver.start.cycles hz t = t * hz / 10 ^ 9 / 4 := by
  simp only [Driver.cycles, Driver.available, Driver.start, ticksPerCycle, Nat.zero_add, Nat.add_zero]

end

/-! ### Calls of `Advance` (rule R287, rule R288) -/

section
variable {sys mid : System} {t : Nat}

theorem System.advance_fst (sys : System) (t : Nat) :
    (sys.advance t).1 = sys.driver.cycles sys.state.params.baseClockHz t * 4 := rfl

/-- A call always answers a next system, which is the one of `System.advance_of_ticks`. -/
theorem System.advance_next (sys : System) (t : Nat) : ∃ next, (sys.advance t).2 = .next next := by
  obtain ⟨s, hs⟩ := ticks_next (sys.driver.cycles sys.state.params.baseClockHz t) sys.state
  exact ⟨_, System.advance_of_ticks hs⟩

theorem System.advance_cases (h : (sys.advance t).2 = .next mid) :
    ∃ s, ticks (sys.driver.cycles sys.state.params.baseClockHz t) sys.state = .next s ∧
      mid = { sys with
        state := s
        driver := sys.driver.after sys.state.params.baseClockHz t
        ticked := sys.ticked || decide (0 < sys.driver.cycles sys.state.params.baseClockHz t) } := by
  obtain ⟨s, hs⟩ := ticks_next (sys.driver.cycles sys.state.params.baseClockHz t) sys.state
  rw [System.advance_of_ticks hs] at h
  cases h
  exact ⟨s, hs, rfl⟩

theorem System.advance_zero (h : sys.driver.wf = true) : sys.advance 0 = (0, .next sys) := by
  have hcycles := sys.driver.cycles_zero sys.state.params.baseClockHz h
  refine Prod.ext ?_ ?_
  · rw [System.advance_fst, hcycles]
  · rw [System.advance_of_ticks (s := sys.state) (by rw [hcycles]; rfl), Driver.after_zero _ _ h, hcycles]
    simp

/-- One call with the sum of two times is the one call after the other. -/
theorem System.advance_add (h : (sys.advance t).2 = .next mid) (u : Nat) :
    sys.advance (t + u) = ((sys.advance t).1 + (mid.advance u).1, (mid.advance u).2) := by
  obtain ⟨s, hs, rfl⟩ := System.advance_cases h
  obtain ⟨s', hs'⟩ := ticks_next ((sys.driver.after sys.state.params.baseClockHz t).cycles s.params.baseClockHz u) s
  have hsum : ticks (sys.driver.cycles sys.state.params.baseClockHz (t + u)) sys.state = .next s' := by
    rw [Driver.cycles_add, ticks_add hs, ← hs', ticks_keeps_params hs]
  refine Prod.ext ?_ ?_
  · simp only [System.advance_fst, Driver.cycles_add, ticks_keeps_params hs, Nat.add_mul]
  · rw [System.advance_of_ticks hsum, System.advance_of_ticks hs']
    simp only [ticks_keeps_params hs, Driver.after_add, Driver.cycles_add]
    simp [Bool.or_assoc]

theorem System.advance_driver_wf (h : (sys.advance t).2 = .next mid) : mid.driver.wf = true := by
  obtain ⟨s, _, rfl⟩ := System.advance_cases h
  exact Driver.after_wf _ _ _

end

open Sys2Proof.Claims

/-- By induction on the list: the calls after the first are one call with their sum, which follows the first. -/
theorem advanceAll_eq (sys : System) (times : List Nat) (h : sys.driver.wf = true) :
    advanceAll sys times = sys.advance times.sum := by
  induction times generalizing sys with
  | nil => exact (System.advance_zero h).symm
  | cons t rest ih =>
    obtain ⟨mid, hmid⟩ := sys.advance_next t
    rw [List.sum_cons, System.advance_add hmid, ← ih mid (System.advance_driver_wf hmid)]
    simp only [advanceAll, hmid]

theorem System.advance_fst_of_start {sys : System} (h : sys.driver = Driver.start) (t : Nat) :
    (sys.advance t).1 = 4 * (t * sys.state.params.baseClockHz / 10 ^ 9 / 4) := by
  rw [System.advance_fst, h, Driver.cycles_start, Nat.mul_comm]

/-- Settles O57: the calls are one call with the sum of their times (`advanceAll_eq`), whose return from `Start` is that of
`System.advance_fst_of_start`; the examples are computed from it. -/
theorem advanceIsAdditive : Obligations.AdvanceIsAdditive := by
  intro sys times hwf
  obtain ⟨next, hnext⟩ := sys.advance_next times.sum
  refine ⟨advanceAll_eq sys times hwf, ⟨next, hnext, System.advance_driver_wf hnext⟩, by decide, fun hstart => ?total,
    fun hstart hhz => ⟨fun k hk => ?example1, ?example6, by decide, by decide, ?second, by decide⟩⟩
  case total => rw [advanceAll_eq sys times hwf, System.advance_fst_of_start hstart]
  case example1 =>
    rw [advanceAll_eq sys _ hwf, System.advance_fst_of_start hstart, hhz, List.sum_replicate, smul_eq_mul]
    omega
  all_goals simp [System.advance_fst_of_start hstart, hhz]

/-! ### The presets (rule R37, rule R289) -/

theorem System.preset_of_not_ticked {sys : System} (h : sys.ticked = false) (p : Preset) :
    sys.preset p = some { sys with state :=
      (((((sys.state.setAF p.af).setBC p.bc).setDE p.de).setHL p.hl).setSP p.sp).setPC p.pc } := by
  rw [System.preset, h, if_neg Bool.false_ne_true]

/-- Settles O59: a preset before the first tick is the six writes (`System.preset_of_not_ticked`), the host's `Tick()` is the step
(`System.tick_of_step`), and a call of `Advance` sets the mark where it drives a cycle (`System.advance_cases`). -/
theorem presetsEndWithTheFirstTick : Obligations.PresetsEndWithTheFirstTick := by
  intro sys p
  refine ⟨fun h => ?before, fun h => System.preset_of_ticked h p, ?tick, fun ns next h => ?advance⟩
  case before => exact ⟨_, System.preset_of_not_ticked h p, rfl, rfl, rfl, rfl, rfl, rfl⟩
  case tick =>
    obtain ⟨t, ht⟩ := step_next sys.state
    exact ⟨_, System.tick_of_step ht, ht, rfl, rfl, rfl, System.preset_of_ticked rfl p⟩
  case advance =>
    obtain ⟨s, _, rfl⟩ := System.advance_cases h
    rw [Bool.or_eq_true, decide_eq_true_iff]

/-! ### The outcome of a run (rule R290) -/

theorem State.outcome_of_halted {s : State} (hf : s.fault = none) (hh : s.halted = true) : s.outcome = .halted := by
  simp only [State.outcome, hf, hh, if_true]

theorem State.outcome_of_running {s : State} (hf : s.fault = none) (hh : s.halted = false) : s.outcome = .running := by
  simp only [State.outcome, hf, hh, Bool.false_eq_true, if_false]

/-- Settles O60: one outcome for each of the three cases of `fault` and `halted`, and the three outcomes differ. -/
theorem outcomeIsReadFromTheState : Obligations.OutcomeIsReadFromTheState := by
  intro s
  cases hf : s.fault with
  | some e => simp [State.outcome_of_fault hf]
  | none =>
    cases hh : s.halted with
    | true => simp [State.outcome_of_halted hf hh]
    | false => simp [State.outcome_of_running hf hh]

end Sys2Proof.Machine

/-! SUPPORT and SETTLED OBLIGATIONS. Video memory through its two ranges of addresses, the fetch of what was written there, and
a pop of what was pushed (spec/20_memory.md, spec/41_load16.md). -/

namespace Sys2Proof.Machine

/-! ### Video memory and its echo (rule R58, rule R71) -/

section
variable {s t : State} {k : Nat} {v : Byte}

theorem State.read8_of_route_eq (s : State) {a b : Word} (ha : route a = .videoMemory k) (hb : route b = .videoMemory k) :
    s.read8 a = s.read8 b := by
  rw [State.read8_of_videoMemory s ha, State.read8_of_videoMemory s hb]

/-- Only the two addresses of a byte of video memory are sent to it (`route_videoMemory_addr`), so that a write there leaves
what every other address reads. -/
theorem State.read8_elsewhere (hk : k < 0x2000) (h : s.write8 (BitVec.ofNat 16 (0x8000 + k)) v = .ok t) {b : Word}
    (hb : b.toNat ≠ 0x8000 + k) (hecho : ¬(k < 0x1E00 ∧ b.toNat = 0xE000 + k)) : t.read8 b = s.read8 b := by
  refine State.read8_write8_other h fun hroute => ?_
  rw [route_videoMemory_offset hk] at hroute
  exact (route_videoMemory_addr hroute).elim hb hecho

/-- Settles O9: both addresses are sent to one offset (`route_videoMemory_offset`, `route_echo_offset`), at which the byte is
written and read. -/
theorem videoMemoryAndItsEchoAreOneStore : Obligations.VideoMemoryAndItsEchoAreOneStore := by
  intro s k v hk hwf
  have hr := route_videoMemory_offset hk
  have hw := s.write8_of_videoMemory v hr
  refine ⟨_, hw, State.read8_write8_same hwf hw hr hr, fun hecho => ?echo, fun b => State.read8_elsewhere hk hw⟩
  case echo =>
    have he := route_echo_offset hecho
    exact ⟨s.write8_of_videoMemory v he, State.read8_write8_same hwf hw hr he, s.read8_of_route_eq he hr⟩

/-- A fetch sees what a read at `PC` does. -/
theorem fetch8_setPC_of_read8 {a : Nat} (h : t.read8 (BitVec.ofNat 16 a) = .ok v) :
    fetch8 (t.setPC (BitVec.ofNat 16 a)) = .ok (v, t.setPC (BitVec.ofNat 16 (a + 1))) := by
  rw [BitVec.ofNat_add]
  exact fetch8_of_read8 (s := t.setPC (BitVec.ofNat 16 a)) h

/-- Settles O23: the byte written reads back at both addresses (`State.read8_write8_same`), and the fetch is that read
(`fetch8_setPC_of_read8`). -/
theorem fetchSeesTheLastWrite : Obligations.FetchSeesTheLastWrite := by
  intro s t k v hk hwf hw
  have hr := route_videoMemory_offset hk
  refine ⟨fetch8_setPC_of_read8 (State.read8_write8_same hwf hw hr hr), fun hecho => ?_⟩
  exact fetch8_setPC_of_read8 (State.read8_write8_same hwf hw hr (route_echo_offset hecho))

/-! ### A word on the stack (rule R145, rule R146) -/

/-- A word written to two bytes of video memory reads back there, byte by byte. -/
theorem State.write16_videoMemory {a : Word} (hwf : Memory.wf vramSize s.vram = true) (hlo : route a = .videoMemory k)
    (hhi : route (a + 1) = .videoMemory (k + 1)) (w : Word) :
    ∃ t, s.write16 a w = .ok t ∧ t.read8 a = .ok (loByte w) ∧ t.read8 (a + 1) = .ok (hiByte w) := by
  obtain ⟨m, hm⟩ : ∃ m, s.write8 a (loByte w) = .ok m := ⟨_, s.write8_of_videoMemory _ hlo⟩
  obtain ⟨t, ht⟩ : ∃ t, m.write8 (a + 1) (hiByte w) = .ok t := ⟨_, m.write8_of_videoMemory _ hhi⟩
  have hother : route a ≠ route (a + 1) := by
    rw [hlo, hhi]
    simp
  refine ⟨t, State.write16_of_write8 hm ht, ?low, State.read8_write8_same ((Quiet.write8 hm).vramWf hwf) ht hhi hhi⟩
  case low => rw [State.read8_write8_other ht hother, State.read8_write8_same hwf hm hlo hlo]

end

/-- A write of `AF` is masked, one of another slot is not (rule R25). -/
theorem State.stackPair_setStackPair (s : State) (qq : StackPair) (w : Word) :
    (s.setStackPair qq w).stackPair qq = if qq = .af then w &&& 0xFFF0 else w := by
  cases qq <;> rfl

/-- The two bytes of the stack that a push with `SP` in this range writes are bytes of video memory. -/
theorem route_stack {sp : Word} (h : 0x8002 ≤ sp.toNat) (h' : sp.toNat ≤ 0xA000) :
    route (sp - 2) = .videoMemory (sp.toNat - 0x8002) ∧ route (sp - 2 + 1) = .videoMemory (sp.toNat - 0x8002 + 1) := by
  have hlow : (sp - 2).toNat = sp.toNat - 2 := by bv_omega
  have hhigh : (sp - 2 + 1).toNat = sp.toNat - 1 := by bv_omega
  constructor
  · rw [route_videoMemory (by omega) (by omega), hlow]
    exact congrArg Region.videoMemory (by omega)
  · rw [route_videoMemory (by omega) (by omega), hhigh]
    exact congrArg Region.videoMemory (by omega)

/-- Settles O37: the push writes the word to two bytes of video memory (`State.write16_videoMemory`), where the pop reads it
back. -/
theorem popGivesBackWhatWasPushed : Obligations.PopGivesBackWhatWasPushed := by
  intro s src dst h h' hwf
  obtain ⟨hroute, hroute'⟩ := route_stack h h'
  obtain ⟨t, hw, hlo, hhi⟩ :=
    State.write16_videoMemory (s := s.setSP (s.sp - 2)) hwf hroute hroute' (s.stackPair src)
  have hsp : t.sp = s.sp - 2 := by rw [State.push_ok_eq hw]
  have hback : s.sp - 2 + 2 = s.sp := BitVec.sub_add_cancel _ _
  have hone : s.sp - 2 + 1 = s.sp - 1 := by bv_omega
  have hpop : t.read16 t.sp = .ok (s.stackPair src) := by
    rw [hsp, State.read16_of_read8 hlo hhi, joinBytes_hiByte_loByte]
  obtain ⟨hpushed, _⟩ := pushPair_pushes src s
  obtain ⟨hpopped, _⟩ := popPair_pops dst { t with counter := 3 }
  refine ⟨_, _, hpushed t hw, hsp, hlo, hone ▸ hhi, hpopped _ hpop, ?sp, ?slot⟩
  case sp =>
    rw [State.setStackPair_sp, State.setSP_sp, hsp, hback]
  case slot => exact State.stackPair_setStackPair _ dst _

end Sys2Proof.Machine

/-! SUPPORT and SETTLED OBLIGATIONS. What the decoder makes of the words the spec writes out, of a sequence that is cut short
and of the unmapped opcodes (spec/30_encoding.md, spec/95_test_vectors.md). -/

namespace Sys2Proof.Machine

/-- Settles O1: the decoder computes each of these answers. -/
theorem decodeReadsWordsOfTheSpec : Obligations.DecodeReadsWordsOfTheSpec :=
  ⟨rfl, rfl, rfl, rfl, rfl, rfl, rfl, rfl, rfl, rfl, rfl, rfl, rfl, rfl⟩

/-- Settles O22: an instruction's bytes decode to it (`decode_encode_append`), and so its fetch is cut short at the byte that
cannot be read (`fetchedAs_of_decode`). -/
theorem fetchErrorLeavesPcAtTheUnreadByte : Obligations.FetchErrorLeavesPcAtTheUnreadByte := by
  intro i
  have hd := decode_encode_append i []
  rw [List.append_nil] at hd
  exact fetchedAs_of_decode rfl hd

/-! ### The unmapped rows (rule R91) -/

/-- What the model has of an unmapped opcode: a row of one byte that opens as itself and means its decode error. -/
structure UnmappedRow (i : Instr) (op : Byte) : Prop where
  unmapped : op ∈ unmappedPrimary
  encode : encode i = [op]
  opening : decodePrimary op = .plain i
  meaning : ∀ s, exec i s = unmappedOpcode op s

theorem unmappedRows :
    ∀ row ∈ ([(.unmappedD3, 0xD3), (.unmappedDB, 0xDB), (.unmappedDD, 0xDD), (.unmappedE3, 0xE3), (.unmappedE4, 0xE4),
      (.unmappedEB, 0xEB), (.unmappedEC, 0xEC), (.unmappedED, 0xED), (.unmappedF4, 0xF4), (.unmappedFC, 0xFC),
      (.unmappedFD, 0xFD)] : List (Instr × Byte)), UnmappedRow row.1 row.2 := by
  simp only [List.forall_mem_cons]
  refine ⟨?_, ?_, ?_, ?_, ?_, ?_, ?_, ?_, ?_, ?_, ?_, by simp⟩ <;>
  exact ⟨by decide, rfl, rfl, fun _ => rfl⟩

section
variable {i : Instr} {op : Byte} (h : UnmappedRow i op)
include h

theorem UnmappedRow.ne_CB : op ≠ 0xCB := by
  have hne : ∀ op ∈ unmappedPrimary, op ≠ 0xCB := by decide
  exact hne op h.unmapped

theorem UnmappedRow.mapsPrimary (p : Params) : p.mapsPrimary op = false :=
  (mapsPrimary_eq_false_iff h.ne_CB).mpr (.inl h.unmapped)

theorem UnmappedRow.wellFormed (p : Params) : WellFormed p i = false := by
  simp only [WellFormed, h.encode, h.ne_CB, if_false, h.mapsPrimary]

end

/-- Settles O53: an unmapped row is in no build's table (`UnmappedRow.mapsPrimary`), so that fetching it raises
(`executeInstruction_of_not_mapsPrimary`), and where it is not left out the fetch reaches its meaning
(`fetchInstr_of_plain`). -/
theorem unmappedRowsRaiseTheirDecodeError : Obligations.UnmappedRowsRaiseTheirDecodeError := by
  intro i op hmem
  have h : UnmappedRow i op := unmappedRows _ hmem
  refine ⟨h.encode, h.wellFormed, h.meaning, fun s hh hread => ?raised, fun s hh hread hmap => ?meaning⟩
  case raised => exact executeInstruction_of_not_mapsPrimary hh hread h.ne_CB (h.mapsPrimary s.params)
  case meaning => exact executeInstruction_of_got hh (fetchInstr_of_plain hread hmap h.opening)

end Sys2Proof.Machine

/-! SUPPORT and SETTLED OBLIGATIONS. What an instruction does never depends on the counter (spec/70_reset_and_hazards.md
section 3). -/

namespace Sys2Proof.Machine

/-! ### States that differ in the counter alone -/

/-- `u` is `s` with the counter at `k`. -/
def Recounted (k : Nat) (s u : State) : Prop := u = { s with counter := k }

section
variable {k : Nat} {s u : State}

theorem Recounted.start (k : Nat) (s : State) : Recounted k s { s with counter := k } := rfl

section
variable (h : Recounted k s u)
include h

theorem Recounted.setReg {r : Reg} {v : Byte} : Recounted k (s.setReg r v) (u.setReg r v) := by
  subst h
  cases r <;> rfl

theorem Recounted.setA {v : Byte} : Recounted k (s.setA v) (u.setA v) := h.setReg (r := .a)

theorem Recounted.setFlags {fl : Flags} : Recounted k (s.setFlags fl) (u.setFlags fl) := by
  subst h
  rfl

theorem Recounted.setPair {rr : Pair} {v : Word} : Recounted k (s.setPair rr v) (u.setPair rr v) := by
  subst h
  cases rr <;> rfl

theorem Recounted.setHL {v : Word} : Recounted k (s.setHL v) (u.setHL v) := h.setPair (rr := .hl)

theorem Recounted.setSP {v : Word} : Recounted k (s.setSP v) (u.setSP v) := h.setPair (rr := .sp)

theorem Recounted.setPC {v : Word} : Recounted k (s.setPC v) (u.setPC v) := by
  subst h
  rfl

theorem Recounted.setStackPair {qq : StackPair} {v : Word} : Recounted k (s.setStackPair qq v) (u.setStackPair qq v) := by
  subst h
  cases qq <;> rfl

theorem Recounted.setHalted : Recounted k { s with halted := true } { u with halted := true } := by
  subst h
  rfl

theorem Recounted.applyAlu {op : AluOp} {v : Byte} : Recounted k (applyAlu op v s) (applyAlu op v u) := by
  subst h
  cases op <;> rfl

theorem Recounted.applyBit {b : Fin 8} {v : Byte} : Recounted k (applyBit b v s) (applyBit b v u) := by
  subst h
  unfold Machine.applyBit
  split <;> rfl

/-- A write succeeds at both states or is refused at both. -/
theorem Recounted.write8 (a : Word) (v : Byte) :
    (∃ t t', s.write8 a v = .ok t ∧ u.write8 a v = .ok t' ∧ Recounted k t t') ∨
      ∃ e, s.write8 a v = .error e ∧ u.write8 a v = .error e := by
  subst h
  unfold State.write8
  split
  · exact .inl ⟨_, _, rfl, rfl, rfl⟩
  · exact .inl ⟨_, _, rfl, rfl, rfl⟩
  all_goals exact .inr ⟨_, rfl, rfl⟩

theorem Recounted.write16 (a w : Word) :
    (∃ t t', s.write16 a w = .ok t ∧ u.write16 a w = .ok t' ∧ Recounted k t t') ∨
      ∃ e t t', s.write16 a w = .error (e, t) ∧ u.write16 a w = .error (e, t') ∧ Recounted k t t' := by
  obtain ⟨m, m', hm, hm', hr⟩ | ⟨e, he, he'⟩ := h.write8 a (loByte w)
  · obtain ⟨t, t', ht, ht', hr'⟩ | ⟨e, he, he'⟩ := hr.write8 (a + 1) (hiByte w)
    · exact .inl ⟨t, t', State.write16_of_write8 hm ht, State.write16_of_write8 hm' ht', hr'⟩
    · exact .inr ⟨e, m, m', State.write16_of_high_error hm he, State.write16_of_high_error hm' he', hr⟩
  · exact .inr ⟨e, s, u, State.write16_of_low_error he, State.write16_of_low_error he', h⟩

end
end

section
variable (k : Nat) (s : State)

theorem push_recounted (w : Word) :
    (∃ t t', s.push w = .ok t ∧ State.push { s with counter := k } w = .ok t' ∧ Recounted k t t') ∨
      ∃ e t t', s.push w = .error (e, t) ∧ State.push { s with counter := k } w = .error (e, t') ∧ Recounted k t t' :=
  (Recounted.start k s).setSP.write16 (s.sp - 2) w

theorem pop_recounted :
    (∃ v t t', s.pop = .ok (v, t) ∧ State.pop { s with counter := k } = .ok (v, t') ∧ Recounted k t t') ∨
      ∃ e, s.pop = .error e ∧ State.pop { s with counter := k } = .error e := by
  cases hread : s.read16 s.sp with
  | ok v =>
    have hread' : State.read16 { s with counter := k } s.sp = .ok v := hread
    exact .inl ⟨v, _, _, State.pop_of_read16 hread, State.pop_of_read16 hread', (Recounted.start k s).setSP⟩
  | error e =>
    have hread' : State.read16 { s with counter := k } s.sp = .error e := hread
    exact .inr ⟨e, State.pop_of_read16_error hread, State.pop_of_read16_error hread'⟩

end

/-! ### Results that differ in the counter alone -/

/-- Both complete at one cost, or both raise one error, at states that differ in the counter alone. -/
inductive EndsAlike (k : Nat) : Result → Result → Prop
  | completed {s u : State} {cost : Nat} (h : Recounted k s u) : EndsAlike k (complete cost s) (complete cost u)
  | raised {s u : State} {e : Fault} (h : Recounted k s u) : EndsAlike k (raise e s) (raise e u)

section
variable {k : Nat} {s u : State} (h : Recounted k s u)
include h

theorem EndsAlike.withByte {a : Word} {f f' : Byte → State → Result} (hf : ∀ v, EndsAlike k (f v s) (f' v u)) :
    EndsAlike k (withByte a f s) (withByte a f' u) := by
  have hread : u.read8 a = s.read8 a := by
    subst h
    rfl
  unfold Machine.withByte
  rw [hread]
  split
  · exact hf _
  · exact .raised h

theorem EndsAlike.storeByte {a : Word} {v : Byte} {f f' : State → Result}
    (hf : ∀ t t', Recounted k t t' → EndsAlike k (f t) (f' t')) : EndsAlike k (storeByte a v f s) (storeByte a v f' u) := by
  obtain ⟨t, t', ht, ht', hr⟩ | ⟨e, he, he'⟩ := h.write8 a v
  · rw [Machine.storeByte, Machine.storeByte, ht, ht']
    exact hf t t' hr
  · rw [Machine.storeByte, Machine.storeByte, he, he']
    exact .raised h

end

section
variable {k : Nat} {s : State} {cost : Nat}

theorem EndsAlike.pushPair {qq : StackPair} : EndsAlike k (pushOp qq cost s) (pushOp qq cost { s with counter := k }) := by
  have hslot : State.stackPair { s with counter := k } qq = s.stackPair qq := by cases qq <;> rfl
  obtain ⟨t, t', ht, ht', hr⟩ | ⟨e, t, t', ht, ht', hr⟩ := push_recounted k s (s.stackPair qq)
  · simp only [pushOp, hslot, ht, ht']
    exact .completed hr
  · simp only [pushOp, hslot, ht, ht']
    exact .raised hr

theorem EndsAlike.call {target : Word} : EndsAlike k (callOp target cost s) (callOp target cost { s with counter := k }) := by
  obtain ⟨t, t', ht, ht', hr⟩ | ⟨e, t, t', ht, ht', hr⟩ := push_recounted k s s.pc
  · simp only [callOp, ht, ht']
    exact .completed hr.setPC
  · simp only [callOp, ht, ht']
    exact .raised hr

theorem EndsAlike.storeSP {a : Word} : EndsAlike k (storeSPOp a cost s) (storeSPOp a cost { s with counter := k }) := by
  obtain ⟨t, t', ht, ht', hr⟩ | ⟨e, t, t', ht, ht', hr⟩ := (Recounted.start k s).write16 a s.sp
  · simp only [storeSPOp, ht, ht']
    exact .completed hr
  · simp only [storeSPOp, ht, ht']
    exact .raised hr

theorem EndsAlike.popPair {qq : StackPair} : EndsAlike k (popOp qq cost s) (popOp qq cost { s with counter := k }) := by
  obtain ⟨v, t, t', ht, ht', hr⟩ | ⟨e, he, he'⟩ := pop_recounted k s
  · simp only [popOp, ht, ht']
    exact .completed hr.setStackPair
  · simp only [popOp, he, he']
    exact .raised (.start k s)

theorem EndsAlike.ret : EndsAlike k (retOp cost s) (retOp cost { s with counter := k }) := by
  obtain ⟨v, t, t', ht, ht', hr⟩ | ⟨e, he, he'⟩ := pop_recounted k s
  · simp only [retOp, ht, ht']
    exact .completed hr.setPC
  · simp only [retOp, he, he']
    exact .raised (.start k s)

theorem EndsAlike.when {cc : Cond} {taken taken' : State → Result}
    (h : EndsAlike k (taken s) (taken' { s with counter := k })) :
    EndsAlike k (whenOp cc taken cost s) (whenOp cc taken' cost { s with counter := k }) := by
  have hcond : State.cond { s with counter := k } cc = s.cond cc := by cases cc <;> rfl
  rw [whenOp, whenOp, hcond]
  split
  · exact h
  · exact .completed (.start k s)

theorem EndsAlike.jump {target : Word} : EndsAlike k (jumpOp target cost s) (jumpOp target cost { s with counter := k }) :=
  .completed (Recounted.start k s).setPC

theorem EndsAlike.load {dst : Reg} {a : Word} : EndsAlike k (loadOp dst a cost s) (loadOp dst a cost { s with counter := k }) :=
  .withByte (.start k s) fun _ => .completed (Recounted.start k s).setReg

theorem EndsAlike.store {a : Word} {v : Byte} : EndsAlike k (storeOp a v cost s) (storeOp a v cost { s with counter := k }) :=
  .storeByte (.start k s) fun _ _ h => .completed h

theorem EndsAlike.loadStep {delta : Word} :
    EndsAlike k (loadStepOp delta cost s) (loadStepOp delta cost { s with counter := k }) :=
  .withByte (.start k s) fun _ => .completed (Recounted.start k s).setA.setHL

theorem EndsAlike.storeStep {delta : Word} :
    EndsAlike k (storeStepOp delta cost s) (storeStepOp delta cost { s with counter := k }) :=
  .storeByte (.start k s) fun _ _ h => .completed h.setHL

theorem EndsAlike.modifyAtHL {f : Byte → Byte} {after after' : Byte → State → State}
    (h : ∀ v t t', Recounted k t t' → Recounted k (after v t) (after' v t')) :
    EndsAlike k (modifyAtHL f after cost s) (modifyAtHL f after' cost { s with counter := k }) :=
  .withByte (.start k s) fun v => .storeByte (.start k s) fun t t' ht => .completed (h v t t' ht)

end

/-! ### Every instruction -/

/-- Every instruction, family by family: each read of its meaning is of what the counter is not, and each write is made at
both states. -/
theorem exec_endsAlike (i : Instr) (k : Nat) (s : State) : EndsAlike k (exec i s) (exec i { s with counter := k }) := by
  have start := Recounted.start k s
  induction i using Instr.byFamily with
  | h_ldRegReg dst src => simp only [exec_ldRegReg]; exact .completed start.setReg
  | h_ldRegInd dst => simp only [exec_ldRegInd]; exact .load
  | h_ldIndReg src => simp only [exec_ldIndReg]; exact .store
  | h_ldRegImm dst n => simp only [exec_ldRegImm]; exact .completed start.setReg
  | h_ldPairImm rr w => simp only [exec_ldPairImm]; exact .completed start.setPair
  | h_pushPair qq => simp only [exec_pushPair]; exact .pushPair
  | h_popPair qq => simp only [exec_popPair]; exact .popPair
  | h_aluReg op r => simp only [exec_aluReg]; exact .completed start.applyAlu
  | h_aluInd op => simp only [exec_aluInd]; exact .withByte start fun _ => .completed start.applyAlu
  | h_aluImm op n => simp only [exec_aluImm]; exact .completed start.applyAlu
  | h_incReg dst => simp only [exec_incReg]; exact .completed start.setReg.setFlags
  | h_decReg dst => simp only [exec_decReg]; exact .completed start.setReg.setFlags
  | h_incPair rr => simp only [exec_incPair]; exact .completed start.setPair
  | h_decPair rr => simp only [exec_decPair]; exact .completed start.setPair
  | h_addHLPair rr => simp only [exec_addHLPair]; exact .completed start.setFlags.setHL
  | h_rotReg op r => simp only [exec_rotReg]; exact .completed start.setReg.setFlags
  | h_rotInd op => simp only [exec_rotInd]; exact .modifyAtHL fun _ _ _ h => by subst h; rfl
  | h_bitReg b r => simp only [exec_bitReg]; exact .completed start.applyBit
  | h_bitInd b => simp only [exec_bitInd]; exact .withByte start fun _ => .completed start.applyBit
  | h_resReg b r => simp only [exec_resReg]; exact .completed start.setReg
  | h_resInd b => simp only [exec_resInd]; exact .modifyAtHL fun _ _ _ h => h
  | h_setReg b r => simp only [exec_setReg]; exact .completed start.setReg
  | h_setInd b => simp only [exec_setInd]; exact .modifyAtHL fun _ _ _ h => h
  | h_jrCond cc e => simp only [exec_jrCond]; exact .when .jump
  | h_jpCond cc w => simp only [exec_jpCond]; exact .when .jump
  | h_callCond cc w => simp only [exec_callCond]; exact .when .call
  | h_retCond cc => simp only [exec_retCond]; exact .when .ret
  | h_rst k => simp only [exec_rst]; exact .call
  | h_ldIndA16SP w => exact .storeSP
  | h_ldAIndBC | h_ldAIndDE | h_ldAIndA16 | h_ldhAIndA8 | h_ldAIndC => exact .load
  | h_ldAIndHLInc | h_ldAIndHLDec => exact .loadStep
  | h_ldIndBCA | h_ldIndDEA | h_ldIndA16A | h_ldhIndA8A | h_ldIndCA | h_ldIndHLD8 => exact .store
  | h_ldIndHLIncA | h_ldIndHLDecA => exact .storeStep
  | h_ldSPHL => exact .completed start.setSP
  | h_ldHLSPE8 => exact .completed start.setFlags.setHL
  | h_addSPE8 => exact .completed start.setFlags.setSP
  | h_incIndHL | h_decIndHL => exact .modifyAtHL fun _ _ _ h => by subst h; rfl
  | h_daa | h_cpl | h_rlca | h_rrca | h_rla | h_rra => exact .completed start.setA.setFlags
  | h_scf | h_ccf => exact .completed start.setFlags
  | h_jrE8 | h_jpA16 | h_jpHL => exact .jump
  | h_callA16 => exact .call
  | h_ret | h_reti => exact .ret
  | h_halt | h_stop => exact .completed start.setHalted
  | h_nop | h_di | h_ei => exact .completed start
  | h_unmappedD3 | h_unmappedDB | h_unmappedDD | h_unmappedE3 | h_unmappedE4 | h_unmappedEB | h_unmappedEC | h_unmappedED
  | h_unmappedF4 | h_unmappedFC | h_unmappedFD => exact .raised start

theorem EndsAlike.next {k : Nat} {r r' : Result} {t : State} (h : EndsAlike k r r') (hr : r = .next t) :
    ∃ u, r' = .next u ∧ { u with counter := t.counter } = t := by
  cases h with
  | completed h =>
    cases hr
    subst h
    exact ⟨_, rfl, rfl⟩
  | raised h =>
    cases hr
    subst h
    exact ⟨_, rfl, rfl⟩

/-- Settles O55: run from two states that differ in the counter alone, an instruction completes at one cost or raises one error,
at states that differ in the counter alone (`exec_endsAlike`). -/
theorem executionIgnoresTheCounter : Obligations.ExecutionIgnoresTheCounter :=
  fun i s _ k h => (exec_endsAlike i k s).next h

end Sys2Proof.Machine

/-! SUPPORT and SETTLED OBLIGATIONS. Decimal arithmetic on packed BCD bytes (spec/42_alu8.md rule R173). -/

namespace Sys2Proof.Machine

open Sys2Proof.Claims

/-! ### What DAA leaves (rule R173) -/

/-- The carry that DAA leaves: the one it found, and after an addition one that the unadjusted byte tells. -/
def daaCarry (a : Byte) (fl : Flags) : Bool := fl.c || (!fl.n && decide (a.toNat > 0x99))

theorem daaHigh_eq (a : Byte) (fl : Flags) : daaHigh a fl = if daaCarry a fl then 0x60 else 0 := by
  simp [daaHigh, daaCarry]

@[simp] theorem State.setFlags_flags (s : State) (fl : Flags) : (s.setFlags fl).flags = fl := by simp [State.flags]

/-- An accumulator operation with an immediate, and then DAA, which adjusts its result by its flags. -/
theorem exec_aluImm_then_daa {op : AluOp} (hop : op ≠ .cp) (v : Byte) (s : State) :
    ∃ t u, exec (.aluImm op v) s = .next t ∧ exec .daa t = .next u ∧
      u.a = daaValue (aluResult op s.a v s.flagC).1 (aluResult op s.a v s.flagC).2 ∧
      u.flagC = daaCarry (aluResult op s.a v s.flagC).1 (aluResult op s.a v s.flagC).2 := by
  obtain ⟨t, ht, ha, hfl⟩ : ∃ t, exec (.aluImm op v) s = .next t ∧ t.a = (aluResult op s.a v s.flagC).1 ∧
      t.flags = (aluResult op s.a v s.flagC).2 := by
    refine ⟨_, exec_aluImm op v s, ?_⟩
    rw [applyAlu_of_ne_cp hop]
    exact ⟨(State.setFlags_a _ _).trans (State.setA_a _ _), State.setFlags_flags _ _⟩
  refine ⟨t, _, ht, exec_daa t, ?_⟩
  rw [ha, hfl, daaResult_eq]
  exact ⟨(State.setFlags_a _ _).trans (State.setA_a _ _), State.setFlags_flagC _ _⟩

/-! ### Packed bytes -/

theorem toNat_packedBcd {x : Nat} (h : x < 100) : (packedBcd x).toNat = x / 10 * 16 + x % 10 := by
  have hdigit : x / 10 < 10 := by omega
  rw [packedBcd, BitVec.toNat_ofNat, Nat.mod_eq_of_lt hdigit, Nat.mod_eq_of_lt (by omega)]

/-- A byte is the packed number whose digits are its nibbles. -/
theorem eq_packedBcd {v : Byte} {x : Nat} (h : x < 100) (hv : v.toNat = x / 10 * 16 + x % 10) : v = packedBcd x :=
  BitVec.eq_of_toNat_eq (hv.trans (toNat_packedBcd h).symm)

section
variable {x y : Nat} (hx : x < 100) (hy : y < 100)
include hx hy

/-! ### After an addition (rule R161) -/

/-- The low digit is corrected where the digits' sum is no digit: it carries out of the nibble, or it shows there. -/
theorem daaLow_after_add :
    daaLow (addBytes (packedBcd x) (packedBcd y) false).1 (addBytes (packedBcd x) (packedBcd y) false).2 =
      if 10 ≤ x % 10 + y % 10 then 0x06 else 0 := by
  have hX := toNat_packedBcd hx
  have hY := toNat_packedBcd hy
  simp only [daaLow, addBytes_eq, nibble_eq_mod, BitVec.toNat_ofNat, Bool.toNat_false, decide_eq_true_eq, true_and]
  refine if_congr ?_ rfl rfl
  omega

/-- The high digit is corrected, and the carry set, where the sum is 100 or more. -/
theorem daaCarry_after_add :
    daaCarry (addBytes (packedBcd x) (packedBcd y) false).1 (addBytes (packedBcd x) (packedBcd y) false).2 =
      decide (100 ≤ x + y) := by
  have hX := toNat_packedBcd hx
  have hY := toNat_packedBcd hy
  simp only [daaCarry, addBytes_eq, BitVec.toNat_ofNat, Bool.toNat_false, Bool.not_false, Bool.true_and, ← Bool.decide_or]
  refine decide_eq_decide.mpr ?_
  omega

theorem daaValue_after_add :
    daaValue (addBytes (packedBcd x) (packedBcd y) false).1 (addBytes (packedBcd x) (packedBcd y) false).2 =
      packedBcd ((x + y) % 100) := by
  have hX := toNat_packedBcd hx
  have hY := toNat_packedBcd hy
  refine eq_packedBcd (Nat.mod_lt _ (by decide)) ?_
  rw [daaValue, daaLow_after_add hx hy, daaHigh_eq, daaCarry_after_add hx hy]
  simp only [addBytes_eq, Bool.toNat_false, Bool.false_eq_true, if_false, BitVec.toNat_add, BitVec.toNat_ofNat,
    decide_eq_true_eq]
  split <;> split <;> simp only [BitVec.reduceToNat] <;> omega

/-! ### After a subtraction (rule R163) -/

/-- The low digit is corrected where it borrowed. -/
theorem daaLow_after_sub :
    daaLow (subBytes (packedBcd x) (packedBcd y) false).1 (subBytes (packedBcd x) (packedBcd y) false).2 =
      if x % 10 < y % 10 then 0x06 else 0 := by
  have hX := toNat_packedBcd hx
  have hY := toNat_packedBcd hy
  simp only [daaLow, subBytes_false_eq, nibble_eq_mod, decide_eq_true_eq, Bool.true_eq_false, false_and, or_false]
  refine if_congr ?_ rfl rfl
  omega

/-- The high digit is corrected, and the carry set, where the difference is negative. -/
theorem daaCarry_after_sub :
    daaCarry (subBytes (packedBcd x) (packedBcd y) false).1 (subBytes (packedBcd x) (packedBcd y) false).2 =
      decide (x < y) := by
  have hX := toNat_packedBcd hx
  have hY := toNat_packedBcd hy
  simp only [daaCarry, subBytes_false_eq, Bool.not_true, Bool.false_and, Bool.or_false]
  refine decide_eq_decide.mpr ?_
  omega

theorem daaValue_after_sub :
    daaValue (subBytes (packedBcd x) (packedBcd y) false).1 (subBytes (packedBcd x) (packedBcd y) false).2 =
      packedBcd ((x + 100 - y) % 100) := by
  have hX := toNat_packedBcd hx
  have hY := toNat_packedBcd hy
  refine eq_packedBcd (Nat.mod_lt _ (by decide)) ?_
  rw [daaValue, daaLow_after_sub hx hy, daaHigh_eq, daaCarry_after_sub hx hy]
  simp only [subBytes_false_eq, if_true, BitVec.toNat_sub, decide_eq_true_eq]
  split <;> split <;> simp only [BitVec.reduceToNat] <;> omega

end

/-- Settles O43: DAA adjusts the operation's result by its flags (`exec_aluImm_then_daa`), which correct exactly the digits that
left 0..9 (`daaLow_after_add`, `daaCarry_after_add` and their like for SUB). -/
theorem decimalAdjustGivesDecimalResults : Obligations.DecimalAdjustGivesDecimalResults := by
  intro s x y hx hy ha
  obtain ⟨t, u, ht, hu, hvalue, hcarry⟩ := exec_aluImm_then_daa (op := .add) (by decide) (packedBcd y) s
  obtain ⟨t', u', ht', hu', hvalue', hcarry'⟩ := exec_aluImm_then_daa (op := .sub) (by decide) (packedBcd y) s
  rw [ha] at hvalue hcarry hvalue' hcarry'
  exact ⟨⟨t, u, ht, hu, hvalue.trans (daaValue_after_add hx hy), hcarry.trans (daaCarry_after_add hx hy)⟩,
    t', u', ht', hu', hvalue'.trans (daaValue_after_sub hx hy), hcarry'.trans (daaCarry_after_sub hx hy)⟩

end Sys2Proof.Machine
